-- ==== Sys2Proof/Word.lean ====
section
/-! DEFINITION. The widths of the frame codec block: bytes, 16- and 32-bit values, 40-bit command words.
Bit 0 is the least significant bit and every value is unsigned (spec/00_scope.md R8). -/

namespace Sys2Proof

/-- A byte: one running CRC byte, one frame byte, one received byte (R8, R20). -/
abbrev Byte := BitVec 8

/-- A register address, an argument, `CRC_RESULT` or `MEAS_CO2` (R20, R80). -/
abbrev Word16 := BitVec 16

/-- `MEAS_TEMP` and `MEAS_HUM`: an IEEE-754 binary32 bit pattern (R29, R30). -/
abbrev Word32 := BitVec 32

/-- One command word as it stands on the port `cmd` (R51, R80). -/
abbrev Cmd40 := BitVec 40

end Sys2Proof
end

