-- ==== Sys2Proof/Config.lean ====
section
/-! DEFINITION. The parameters of spec/00_scope.md R5. All are fixed by the spec but `RX_CAP`, which is a
named parameter (`RX_CAP >= 17`, default 32): the machine takes it from the field `rxCap` of State (log entry 2). -/

namespace Sys2Proof.Config

/-- `DEV_ADDR`, byte 0 of every request frame (R5, R110). -/
def devAddr : Byte := 0x61#8

/-- The function code read-holding-registers, which BUILD_RD puts in byte 1 (R5, R112). -/
def fcRead : Byte := 0x03#8

/-- The function code write-single-holding-register, which BUILD_WR puts in byte 1 (R5, R113). -/
def fcWrite : Byte := 0x06#8

/-- The CRC seed, the value of each running byte (R5, R134). -/
def crcSeed : Byte := 0xFF#8

/-- `READY_INDEX`: the index of the ready flag byte in a response (R5, R153). -/
def readyIndex : Nat := 4

/-- `MEAS_MIN_LEN`: how many bytes a measurement response has at least (R5, R154, conflict C3). -/
def measMinLen : Nat := 15

/-- The least `RX_CAP` an implementation may have (R5, D11). -/
def rxCapMin : Nat := 17

/-- The default of `RX_CAP` (R5, D11). -/
def rxCapDefault : Nat := 32

end Sys2Proof.Config
end

