-- ==== Sys2Proof/Syntax.lean ====
section
/-! DEFINITION. The eight commands of FCB-1, one constructor per row of spec/opcode_table.json
(spec/30_encoding.md R82). Operands are raw unsigned values of the width of their field (R81), so that a
value which does not fit its field cannot be written down. -/

namespace Sys2Proof

/-- A command of the frame codec block (R82). -/
inductive Instr where
  /-- CRC_INIT: seed the CRC generator (R134). -/
  | crcInit
  /-- CRC_FEED b: feed one byte to the CRC generator (R135). -/
  | crcFeed (b : Byte)
  /-- BUILD_RD a, d: build a read-holding-registers request frame (R112). -/
  | buildRd (a d : Word16)
  /-- BUILD_WR a, d: build a write-single-holding-register request frame (R113). -/
  | buildWr (a d : Word16)
  /-- RX_CLEAR: empty the receive sequence (R151). -/
  | rxClear
  /-- RX_PUSH b: append one received byte (R152). -/
  | rxPush (b : Byte)
  /-- DEC_READY: decode the ready-status flag (R153). -/
  | decReady
  /-- DEC_MEAS: decode a measurement response (R154). -/
  | decMeas
deriving DecidableEq, Repr

end Sys2Proof
end

