-- ==== Sys2Proof/WellFormed.lean ====
section
/-! DEFINITION. What a well-formed command is. Every term of `Instr` is well formed by its types; the checks
stand where an ill-formed thing can be written down: a 40-bit word against the rows of spec/opcode_table.json
(R82, R85), and a number of the assembler's source against the width of its field (R88). The rows are written
from the table's match and mask columns, apart from the decode function of R83: that the two agree is a
statement, not a definition. -/

namespace Sys2Proof

/-- A row of spec/opcode_table.json: the fixed bits of a command word and their values. -/
structure TableRow where
  mask  : Cmd40
  value : Cmd40
deriving DecidableEq, Repr

/-- The word has the row's fixed bits. -/
def TableRow.admits (r : TableRow) (c : Cmd40) : Bool := c &&& r.mask == r.value

/-- The table's row of a command. -/
def Instr.row : Instr → TableRow
  | .crcInit     => ⟨0xFFFFFFFFFF#40, 0x1000000000#40⟩
  | .crcFeed _   => ⟨0xFFFFFFFF00#40, 0x2000000000#40⟩
  | .buildRd _ _ => ⟨0xFF00000000#40, 0x3000000000#40⟩
  | .buildWr _ _ => ⟨0xFF00000000#40, 0x4000000000#40⟩
  | .rxClear     => ⟨0xFFFFFFFFFF#40, 0x5000000000#40⟩
  | .rxPush _    => ⟨0xFFFFFFFF00#40, 0x6000000000#40⟩
  | .decReady    => ⟨0xFFFFFFFFFF#40, 0x7000000000#40⟩
  | .decMeas     => ⟨0xFFFFFFFFFF#40, 0x8000000000#40⟩

/-- The eight rows, in the table's order. -/
def opcodeTable : List TableRow :=
  [Instr.row .crcInit, Instr.row (.crcFeed 0), Instr.row (.buildRd 0 0), Instr.row (.buildWr 0 0),
   Instr.row .rxClear, Instr.row (.rxPush 0), Instr.row .decReady, Instr.row .decMeas]

/-- A word is well formed when a row of the table admits it; any other word is undefined (R82). -/
def wordWellFormed (c : Cmd40) : Bool := opcodeTable.any (TableRow.admits · c)

/-- A number of the assembler's source fits a field of `width` bits (R88). -/
def fitsField (width n : Nat) : Bool := decide (n < 2 ^ width)

end Sys2Proof
end

