-- ==== Sys2Proof/Decode.lean ====
section
/-! DEFINITION. Decoding of a 40-bit command word (spec/30_encoding.md R80 to R87), total over all words and
rejecting by name, and the encoder written from the same format. -/

namespace Sys2Proof

/-- Field `OP`, bits 39:36 (R80). -/
def opOf (c : Cmd40) : BitVec 4 := c.extractLsb' 36 4

/-- Field `Z`, bits 35:32 (R80). -/
def zOf (c : Cmd40) : BitVec 4 := c.extractLsb' 32 4

/-- Field `A`, bits 31:16 (R80). -/
def aOf (c : Cmd40) : Word16 := c.extractLsb' 16 16

/-- Field `D`, bits 15:0 (R80). -/
def dOf (c : Cmd40) : Word16 := c.extractLsb' 0 16

/-- `D[15:8]`, which must be 0 in CRC_FEED and RX_PUSH (R80). -/
def dHiOf (c : Cmd40) : Byte := c.extractLsb' 8 8

/-- `B = D[7:0]`, the byte operand (R80, R81). -/
def bOf (c : Cmd40) : Byte := c.extractLsb' 0 8

/-- Why a word is undefined (R84, R85). The block does not tell the reasons apart: each raises ILLEGAL. -/
inductive Undefined where
  /-- The field `Z` is not zero. -/
  | nonzeroZ
  /-- The opcode is 0x0 or 0x9 .. 0xF. -/
  | reservedOpcode
  /-- The field `A` of a command without an address is not zero. -/
  | nonzeroA
  /-- The field `D` of a command without an argument, or `D[15:8]` of one with a byte operand, is not zero. -/
  | nonzeroD
deriving DecidableEq, Repr

/-- A command without operands: `A` and `D` must be 0 (R82). -/
def decodePlain (c : Cmd40) (i : Instr) : Except Undefined Instr :=
  if aOf c ≠ 0 then .error .nonzeroA
  else if dOf c ≠ 0 then .error .nonzeroD
  else .ok i

/-- A command with a byte operand: `A` and `D[15:8]` must be 0 (R82). -/
def decodeByte (c : Cmd40) (mk : Byte → Instr) : Except Undefined Instr :=
  if aOf c ≠ 0 then .error .nonzeroA
  else if dHiOf c ≠ 0 then .error .nonzeroD
  else .ok (mk (bOf c))

/-- The decode function (R83). -/
def decode (c : Cmd40) : Except Undefined Instr :=
  if zOf c ≠ 0 then .error .nonzeroZ
  else match opOf c with
    | 0x1#4 => decodePlain c .crcInit
    | 0x2#4 => decodeByte c .crcFeed
    | 0x3#4 => .ok (.buildRd (aOf c) (dOf c))
    | 0x4#4 => .ok (.buildWr (aOf c) (dOf c))
    | 0x5#4 => decodePlain c .rxClear
    | 0x6#4 => decodeByte c .rxPush
    | 0x7#4 => decodePlain c .decReady
    | 0x8#4 => decodePlain c .decMeas
    | _     => .error .reservedOpcode

/-- A word from its fields, `Z` being 0 (R80). -/
def packWord (op : BitVec 4) (a d : Word16) : Cmd40 := op ++ 0x0#4 ++ a ++ d

/-- The word of a command (R80, R82). -/
def encode : Instr → Cmd40
  | .crcInit     => packWord 0x1#4 0 0
  | .crcFeed b   => packWord 0x2#4 0 (0x00#8 ++ b)
  | .buildRd a d => packWord 0x3#4 a d
  | .buildWr a d => packWord 0x4#4 a d
  | .rxClear     => packWord 0x5#4 0 0
  | .rxPush b    => packWord 0x6#4 0 (0x00#8 ++ b)
  | .decReady    => packWord 0x7#4 0 0
  | .decMeas     => packWord 0x8#4 0 0

/-- The 40-bit word of the low `nbits` bits of `w`, the bits above being 0; none where they do not fit
(log entry 9). A command arrives whole, as one 40-bit word (R51, R58), so there is no byte order to undo. -/
def tableWord (nbits w : Nat) : Option Cmd40 :=
  if w % 2 ^ nbits < 2 ^ 40 then some (BitVec.ofNat 40 (w % 2 ^ nbits)) else none

/-- The command the decoder reads from a word numbered as spec/opcode_table.json numbers it. -/
def decodeTableWord (nbits w : Nat) : Option Instr :=
  match tableWord nbits w with
  | none => none
  | some c =>
    match decode c with
    | .ok i => some i
    | .error _ => none

end Sys2Proof
end

