-- ==== Sys2Proof/Machine/State.lean ====
section
/-! DEFINITION. The state of the block (spec/10_state.md R20) as plain data, with two fields of the model's own:
the parameter `RX_CAP` and the samples the host drives on the input ports. Reset values: spec/70_reset_and_hazards.md R231. -/

namespace Sys2Proof.Machine

/-- The transmit frame buffer `TX[0] .. TX[7]` (R25), `b0` sent first. -/
structure TxFrame where
  b0 : Byte
  b1 : Byte
  b2 : Byte
  b3 : Byte
  b4 : Byte
  b5 : Byte
  b6 : Byte
  b7 : Byte
deriving DecidableEq, Repr

/-- What the host drives on the input ports `rst`, `cmd_valid` and `cmd` for one step (spec/20_memory.md R51). -/
structure PortSample where
  rst      : Bool
  cmdValid : Bool
  cmd      : Cmd40
deriving DecidableEq, Repr

/-- The state of the machine (R20). -/
structure State where
  /-- `CRC_H`, the source's runningHighByte (R22). -/
  crcH     : Byte
  /-- `CRC_L`, the source's runningLowByte (R23). -/
  crcL     : Byte
  /-- `TX`, the last frame built (R25). -/
  tx       : TxFrame
  /-- `RX`, the received bytes in order; `RXLEN` is its length (R26). -/
  rx       : List Byte
  /-- `READY`, the result of the last DEC_READY (R27). -/
  ready    : Bool
  /-- `MEAS_CO2`, ppm (R28). -/
  measCo2  : Word16
  /-- `MEAS_TEMP`, a binary32 pattern (R29). -/
  measTemp : Word32
  /-- `MEAS_HUM`, a binary32 pattern (R30). -/
  measHum  : Word32
  /-- `STATUS`: bit 0 INCOMPLETE, bit 1 RXOVF, bit 2 ILLEGAL, bits 7:3 reserved (R31). -/
  status   : Byte
  /-- The parameter `RX_CAP` (R5), the model's own field; nothing writes it (log entry 2). -/
  rxCap    : Nat
  /-- The samples the host drives from now on, one a step, the model's own field (log entry 1). -/
  inputs   : List PortSample
deriving DecidableEq, Repr

/-- The state after reset (R231), with the default `RX_CAP` (R5) and nothing yet driven by the host. -/
def State.reset : State where
  crcH     := 0xFF#8
  crcL     := 0xFF#8
  tx       := ⟨0x00#8, 0x00#8, 0x00#8, 0x00#8, 0x00#8, 0x00#8, 0x00#8, 0x00#8⟩
  rx       := []
  ready    := false
  measCo2  := 0x0000#16
  measTemp := 0x00000000#32
  measHum  := 0x00000000#32
  status   := 0x00#8
  rxCap    := Config.rxCapDefault
  inputs   := []

/-- The reasons a step can stop with a fault: there are none. The FCB has no trap mechanism and every error
only sets a STATUS flag (spec/60_exceptions.md R200), so no command raises one (log entry 7). -/
inductive Fault
deriving DecidableEq, Repr

/-- The reasons a step can be refused. -/
inductive Refusal where
  /-- Raised by an arm of `exec` whose instruction has no meaning yet, and safe; no arm of this model does. -/
  | notModelled (mnemonic : String)
deriving DecidableEq, Repr

/-- The answer of a step of this machine. -/
abbrev Answer := Host.Outcome State Fault Refusal

end Sys2Proof.Machine
end

