-- ==== Sys2Proof/Machine/Flags.lean ====
section
/-! DEFINITION. The STATUS register: its three flags, raising and clearing one, and the read of the whole
register (spec/10_state.md R31, spec/60_exceptions.md R200, R201, R205). Raising a flag is all that an error
does: it stands in the place of taking an exception, and clearing in the place of a return (R200, R205). -/

namespace Sys2Proof.Machine

/-- The flags of STATUS (R31). -/
inductive Flag where
  | incomplete
  | rxovf
  | illegal
deriving DecidableEq, Repr

/-- The flag's bit of STATUS, which is also its error code (R31, R201). -/
def Flag.bit : Flag → Nat
  | .incomplete => 0
  | .rxovf      => 1
  | .illegal    => 2

/-- The byte with only that bit set. -/
def Flag.mask : Flag → Byte
  | .incomplete => 0x01#8
  | .rxovf      => 0x02#8
  | .illegal    => 0x04#8

/-- The bits of STATUS that are not hard-wired to 0: bits 7:3 always read 0 (R31, I10, log entry 5). -/
def statusMask : Byte := 0x07#8

/-- The value of a flag. -/
def State.flag (s : State) (f : Flag) : Bool := s.status.getLsbD f.bit

/-- A new STATUS. -/
def State.setStatus (s : State) (v : Byte) : State := { s with status := v }

/-- `raise f`: the flag becomes 1 and nothing else happens (R9, R200). -/
def State.raiseFlag (s : State) (f : Flag) : State := s.setStatus (s.status ||| f.mask)

/-- The flag becomes 0 and nothing else happens (R205). -/
def State.clearFlag (s : State) (f : Flag) : State := s.setStatus (s.status &&& ~~~f.mask)

/-- What the host reads on the output `STATUS` (R31, R51). -/
def State.statusOut (s : State) : Byte := s.status &&& statusMask

end Sys2Proof.Machine
end

