-- ==== Sys2Proof/Machine/Operands.lean ====
section
/-! DEFINITION. How operands and received bytes are taken apart and joined: the bytes of a 16-bit operand
(spec/20_memory.md R53), big-endian joining and CO2 truncation (spec/42_frame_decoder.md R155 to R157). -/

namespace Sys2Proof.Machine

/-- Bits 15:8 of an operand: the byte sent first (R53). -/
def hiByte (v : Word16) : Byte := v.extractLsb' 8 8

/-- Bits 7:0 of an operand: the byte sent second (R53). -/
def loByte (v : Word16) : Byte := v.extractLsb' 0 8

/-- `b0 ++ b1` (R155). -/
def be16 (b0 b1 : Byte) : Word16 := b0 ++ b1

/-- `be32`: four bytes, the most significant first (R155). -/
def be32 (b0 b1 b2 b3 : Byte) : Word32 := b0 ++ b1 ++ b2 ++ b3

/-- The CO2 block cut to its low 16 bits, modulo 2^16 and never saturating (R157, D14). -/
def truncCo2 (raw : Word32) : Word16 := raw.extractLsb' 0 16

/-- Sign bit 31 of a binary32 pattern, as the host reads it (R156). -/
def f32Sign (v : Word32) : BitVec 1 := v.extractLsb' 31 1

/-- Exponent bits 30:23 (bias 127) of a binary32 pattern (R156). -/
def f32Exponent (v : Word32) : Byte := v.extractLsb' 23 8

/-- Fraction bits 22:0 of a binary32 pattern (R156). -/
def f32Fraction (v : Word32) : BitVec 23 := v.extractLsb' 0 23

end Sys2Proof.Machine
end

