-- ==== Sys2Proof/Machine/Ops.lean ====
section
/-! DEFINITION. The named operations over the registers that the meanings share: the CRC generator, the frame
builder, the receive sequence, the Reading, and the reset input. -/

namespace Sys2Proof.Machine

/-- The two running bytes of the CRC generator (R22, R23). -/
structure CrcPair where
  h : Byte
  l : Byte
deriving DecidableEq, Repr

/-- The seed: 0xFF in each running byte (R134). -/
def CrcPair.seed : CrcPair := ⟨Config.crcSeed, Config.crcSeed⟩

/-- One step of the generator (R130, R135); both bytes are written together, from the old ones. -/
def CrcPair.feed (c : CrcPair) (b : Byte) : CrcPair :=
  ⟨c.l ^^^ crcTh (c.h ^^^ b), crcTl (c.h ^^^ b)⟩

/-- The generator run over a message from the seed: the source's computeCRC16 (R136). -/
def crcOfBytes (bytes : List Byte) : CrcPair := bytes.foldl CrcPair.feed CrcPair.seed

/-- The Reading: the values DEC_MEAS writes together (R28 to R30, R59). -/
structure Reading where
  co2  : Word16
  temp : Word32
  hum  : Word32
deriving DecidableEq, Repr

/-- The running bytes a state holds. -/
def State.crc (s : State) : CrcPair := ⟨s.crcH, s.crcL⟩

/-- New running bytes. -/
def State.setCrc (s : State) (c : CrcPair) : State := { s with crcH := c.h, crcL := c.l }

/-- A new frame in the transmit buffer; all 8 bytes are written in one step (R25). -/
def State.setTx (s : State) (f : TxFrame) : State := { s with tx := f }

/-- A new receive sequence (R26). -/
def State.setRx (s : State) (bytes : List Byte) : State := { s with rx := bytes }

/-- A new value of READY (R27). -/
def State.setReady (s : State) (v : Bool) : State := { s with ready := v }

/-- A new Reading: the three registers change together (R59). -/
def State.setReading (s : State) (r : Reading) : State :=
  { s with measCo2 := r.co2, measTemp := r.temp, measHum := r.hum }

/-- What the host still drives (log entry 1). -/
def State.setInputs (s : State) (ins : List PortSample) : State := { s with inputs := ins }

/-- `RXLEN`, the number of received bytes held (R26). -/
def State.rxLen (s : State) : Nat := s.rx.length

/-- `RX[i]`, and 0x00 at and past `RXLEN`, as the output `RXi` shows it (R26, D25). -/
def State.rxByte (s : State) (i : Nat) : Byte := s.rx.getD i 0x00#8

/-- The six bytes the frame's CRC is computed over (R110, R111). -/
def frameHead (fc : Byte) (a d : Word16) : List Byte :=
  [Config.devAddr, fc, hiByte a, loByte a, hiByte d, loByte d]

/-- The CRC of a frame (R111). -/
def frameCrc (fc : Byte) (a d : Word16) : CrcPair := crcOfBytes (frameHead fc a d)

/-- The request frame in wire order: byte 6 is `CRC_H`, byte 7 is `CRC_L` (R110, R54, D8). -/
def requestFrame (fc : Byte) (a d : Word16) : TxFrame where
  b0 := Config.devAddr
  b1 := fc
  b2 := hiByte a
  b3 := loByte a
  b4 := hiByte d
  b5 := loByte d
  b6 := (frameCrc fc a d).h
  b7 := (frameCrc fc a d).l

/-- `build`: the frame goes to TX and its CRC stays in the shared generator (R111, D9). -/
def State.build (s : State) (fc : Byte) (a d : Word16) : State :=
  (s.setTx (requestFrame fc a d)).setCrc (frameCrc fc a d)

/-- A received byte is appended, or discarded with RXOVF when the buffer is full (R152). -/
def State.pushRx (s : State) (b : Byte) : State :=
  if s.rxLen < s.rxCap then s.setRx (s.rx ++ [b]) else s.raiseFlag .rxovf

/-- The receive sequence is emptied and RXOVF cleared (R151). -/
def State.clearRx (s : State) : State := (s.setRx []).clearFlag .rxovf

/-- The ready flag of the response held: the whole byte at index 4 equals 0x01 (R153, C4). -/
def State.readyDecoded (s : State) : Bool :=
  decide (Config.readyIndex < s.rxLen) && s.rxByte Config.readyIndex == 0x01#8

/-- The big-endian block of four received bytes from index `k` (R55, R155). -/
def State.rxBlock (s : State) (k : Nat) : Word32 :=
  be32 (s.rxByte k) (s.rxByte (k + 1)) (s.rxByte (k + 2)) (s.rxByte (k + 3))

/-- The Reading the response held decodes to, at the offsets 3, 7 and 11 (R150, R154). -/
def State.readingDecoded (s : State) : Reading where
  co2  := truncCo2 (s.rxBlock 3)
  temp := s.rxBlock 7
  hum  := s.rxBlock 11

/-- The measurement is decoded, or INCOMPLETE is raised and the Reading kept (R154). -/
def State.decodeMeas (s : State) : State :=
  if s.rxLen < Config.measMinLen then s.raiseFlag .incomplete
  else (s.setReading s.readingDecoded).clearFlag .incomplete

/-- The effect of the input `rst`: every register at its reset value (R230, R231). The parameter `RX_CAP` and
what the host still drives are no registers of the block and stay (log entry 4). -/
def State.toReset (s : State) : State :=
  { State.reset with rxCap := s.rxCap, inputs := s.inputs }

end Sys2Proof.Machine
end

