-- ==== Sys2Proof/Machine/Crc.lean ====
section
/-! DEFINITION. The commands of the CRC generator (spec/41_crc.md): CRC_INIT and CRC_FEED. -/

namespace Sys2Proof.Machine

/-- CRC_INIT (R134). -/
def execCrcInit (s : State) : Answer := .next (s.setCrc CrcPair.seed)

/-- CRC_FEED (R135): no seed is applied, the step carries on from the bytes held. -/
def execCrcFeed (b : Byte) (s : State) : Answer := .next (s.setCrc (s.crc.feed b))

end Sys2Proof.Machine
end

