-- ==== Sys2Proof/Machine/Decoder.lean ====
section
/-! DEFINITION. The commands of the response decoder (spec/42_frame_decoder.md): DEC_READY and DEC_MEAS. Both
only read the receive sequence (R159), and neither checks a header byte or a CRC (R150, R158). -/

namespace Sys2Proof.Machine

/-- DEC_READY (R153): a short response is not ready, with no error. -/
def execDecReady (s : State) : Answer := .next (s.setReady s.readyDecoded)

/-- DEC_MEAS (R154); a short response raises INCOMPLETE and the command still completes. -/
def execDecMeas (s : State) : Answer := .next s.decodeMeas

end Sys2Proof.Machine
end

