-- ==== Sys2Proof/Machine/Encoder.lean ====
section
/-! DEFINITION. The commands of the frame encoder (spec/40_frame_encoder.md): BUILD_RD and BUILD_WR. The opcode
picks the function code (D7), and no address or argument is checked (R115). -/

namespace Sys2Proof.Machine

/-- BUILD_RD (R112). -/
def execBuildRd (a d : Word16) (s : State) : Answer := .next (s.build Config.fcRead a d)

/-- BUILD_WR (R113). -/
def execBuildWr (a d : Word16) (s : State) : Answer := .next (s.build Config.fcWrite a d)

end Sys2Proof.Machine
end

