-- ==== Sys2Proof/Machine/Receive.lean ====
section
/-! DEFINITION. The commands of the receive buffer (spec/42_frame_decoder.md): RX_CLEAR and RX_PUSH. -/

namespace Sys2Proof.Machine

/-- RX_CLEAR (R151). -/
def execRxClear (s : State) : Answer := .next s.clearRx

/-- RX_PUSH (R152); a full buffer raises RXOVF and the command still completes. -/
def execRxPush (b : Byte) (s : State) : Answer := .next (s.pushRx b)

end Sys2Proof.Machine
end

