-- ==== Sys2Proof/Machine/Dispatch.lean ====
section
/-! DEFINITION. The dispatch of a decoded command to its meaning, one arm per constructor (spec/30_encoding.md R82). -/

namespace Sys2Proof.Machine

def exec (i : Instr) (s : State) : Host.Outcome State Fault Refusal :=
  match i with
  -- the CRC generator
  | .crcInit => Sys2Proof.Machine.execCrcInit s
  | .crcFeed b => Sys2Proof.Machine.execCrcFeed b s
  -- the frame encoder
  | .buildRd a d => Sys2Proof.Machine.execBuildRd a d s
  | .buildWr a d => Sys2Proof.Machine.execBuildWr a d s
  -- the receive buffer
  | .rxClear => Sys2Proof.Machine.execRxClear s
  | .rxPush b => Sys2Proof.Machine.execRxPush b s
  -- the response decoder
  | .decReady => Sys2Proof.Machine.execDecReady s
  | .decMeas => Sys2Proof.Machine.execDecMeas s

end Sys2Proof.Machine
end

