-- ==== Sys2Proof/Machine/Ports.lean ====
section
/-! DEFINITION. The ports of the block (spec/20_memory.md R51): what one sample of the input ports does, and what
each output port shows. -/

namespace Sys2Proof.Machine

/-- The spec's `step(s, c)` (R83): a defined word runs its command, an undefined one raises ILLEGAL and
nothing else changes. -/
def issueWord (c : Cmd40) (s : State) : Answer :=
  match decode c with
  | .ok i => exec i s
  | .error _ => .next (s.raiseFlag .illegal)

/-- One step's sample of the input ports (R51): `rst` wins over a command (R232); with `cmd_valid` = 0 the
state stays as it is. -/
def samplePorts (p : PortSample) (s : State) : Answer :=
  if p.rst then .next s.toReset
  else if p.cmdValid then issueWord p.cmd s
  else .next s

/-- The next sample is taken; while the host drives nothing the block holds its state (R212, log entry 1). -/
def takeInput (s : State) : Answer :=
  match s.inputs with
  | [] => .next s
  | p :: rest => samplePorts p (s.setInputs rest)

/-- The host issues a command word: `rst` = 0, `cmd_valid` = 1 (R51). -/
def wordSample (c : Cmd40) : PortSample := ⟨false, true, c⟩

/-- The host issues a list of commands in order (R63). -/
def commandSamples (is : List Instr) : List PortSample := is.map fun i => wordSample (encode i)

/-- A word put where the next step takes its command: the first sample the host drives. -/
def State.withWordNext (s : State) (c : Cmd40) : State := s.setInputs (wordSample c :: s.inputs)

/-- Output `CRC_RESULT` = `CRC_H ++ CRC_L` (R24). -/
def State.crcResult (s : State) : Word16 := s.crcH ++ s.crcL

/-- The standard CRC value as check tables print it: `CRC_L ++ CRC_H` (R137); not a port of its own. -/
def State.crcStandard (s : State) : Word16 := s.crcL ++ s.crcH

/-- The bytes of a frame in wire order. -/
def TxFrame.toList (f : TxFrame) : List Byte := [f.b0, f.b1, f.b2, f.b3, f.b4, f.b5, f.b6, f.b7]

/-- Outputs `TX0 .. TX7` (R25). -/
def State.txOut (s : State) (i : Fin 8) : Byte := s.tx.toList.getD i.val 0x00#8

/-- The width of the output `RXLEN`: ceil(log2(RX_CAP + 1)) bits (R51), which is floor(log2 RX_CAP) + 1
for the positive capacities there are (log entry 10). -/
def rxLenWidth (cap : Nat) : Nat := cap.log2 + 1

/-- Output `RXLEN` (R51). -/
def State.rxLenOut (s : State) : BitVec (rxLenWidth s.rxCap) := BitVec.ofNat _ s.rxLen

/-- Output `READY` (R27). -/
def State.readyOut (s : State) : BitVec 1 := BitVec.ofBool s.ready

/-- All outputs, each whole and at its full width (R51, R52); reading them changes nothing. -/
structure Outputs where
  crcResult : Word16
  tx        : List Byte
  rxLen     : Nat
  rx        : List Byte
  ready     : BitVec 1
  measCo2   : Word16
  measTemp  : Word32
  measHum   : Word32
  status    : Byte
deriving DecidableEq, Repr

/-- The outputs of a state (R51); `rx` lists `RX0 .. RX(RX_CAP-1)`. -/
def State.outputs (s : State) : Outputs where
  crcResult := s.crcResult
  tx        := s.tx.toList
  rxLen     := s.rxLenOut.toNat
  rx        := (List.range s.rxCap).map s.rxByte
  ready     := s.readyOut
  measCo2   := s.measCo2
  measTemp  := s.measTemp
  measHum   := s.measHum
  status    := s.statusOut

end Sys2Proof.Machine
end

