-- ==== Sys2Proof/Machine/Step.lean ====
section
/-! DEFINITION. One step of the machine: one sample of the input ports is taken (spec/00_scope.md R7, spec/20_memory.md
R51). The block has no program counter and fetches nothing (spec/10_state.md R21): its program is what the host issues
(spec/30_encoding.md R91). -/

namespace Sys2Proof.Machine

/-- One step. -/
def step (s : State) : Host.Outcome State Fault Refusal := Sys2Proof.Machine.takeInput s

/-- The state with a word, numbered as spec/opcode_table.json numbers it, issued by the host next (log entry 1);
a number that is no 40-bit word changes nothing (log entry 9). -/
def State.withFetchWord (s : State) (nbits w : Nat) : State :=
  match tableWord nbits w with
  | some c => s.withWordNext c
  | none => s

end Sys2Proof.Machine
end

