-- ==== Sys2Proof/Machine/Asm.lean ====
section
/-! DEFINITION. The assembler's side of the command set: the sensor's register addresses as frame constants
(spec/20_memory.md R60), the pseudo-instructions and their expansions (spec/30_encoding.md R89), and the line syntax
(R88). No rule of the block reads any of it. What R88 leaves open of the text is log entry 8. -/

namespace Sys2Proof.Machine

/-- The sensor's holding registers that the pseudo-instructions name (R60). -/
inductive SensorReg where
  | startContinuous
  | stopContinuous
  | interval
  | readyStatus
  | measurement
  | altitude
  | selfCalibration
  | forcedRecalibration
  | temperatureOffset
deriving DecidableEq, Repr

/-- The address the source gives the register (R60). -/
def SensorReg.addr : SensorReg → Word16
  | .startContinuous     => 0x0036#16
  | .stopContinuous      => 0x0037#16
  | .interval            => 0x0025#16
  | .readyStatus         => 0x0027#16
  | .measurement         => 0x0028#16
  | .altitude            => 0x0038#16
  | .selfCalibration     => 0x003A#16
  | .forcedRecalibration => 0x0039#16
  | .temperatureOffset   => 0x003B#16

/-- The pseudo-instructions (R89). -/
inductive Pseudo where
  | reqReady
  | reqMeas
  | startCont (p : Word16)
  | stopCont (v : Word16)
  | setInterval (sec : Word16)
  | setAlt (m : Word16)
  | setAsc
  | clrAsc
  | setFrc (ppm : Word16)
  | setToff (t : Word16)
  | crcMsg (bytes : List Byte)
  | recv (bytes : List Byte)
deriving DecidableEq, Repr

/-- The commands a pseudo-instruction stands for, in order (R89). -/
def Pseudo.expand : Pseudo → List Instr
  | .reqReady        => [.buildRd SensorReg.readyStatus.addr 0x0001#16]
  | .reqMeas         => [.buildRd SensorReg.measurement.addr 0x0006#16]
  | .startCont p     => [.buildWr SensorReg.startContinuous.addr p]
  | .stopCont v      => [.buildWr SensorReg.stopContinuous.addr v]
  | .setInterval sec => [.buildWr SensorReg.interval.addr sec]
  | .setAlt m        => [.buildWr SensorReg.altitude.addr m]
  | .setAsc          => [.buildWr SensorReg.selfCalibration.addr 0x0001#16]
  | .clrAsc          => [.buildWr SensorReg.selfCalibration.addr 0x0000#16]
  | .setFrc ppm      => [.buildWr SensorReg.forcedRecalibration.addr ppm]
  | .setToff t       => [.buildWr SensorReg.temperatureOffset.addr t]
  | .crcMsg bytes    => .crcInit :: bytes.map .crcFeed
  | .recv bytes      => .rxClear :: bytes.map .rxPush

/-! The text of one line. -/

/-- A character that separates the parts of a line (log entry 8). -/
def isBlank (c : Char) : Bool := c == ' ' || c == '\t' || c == '\r'

/-- The text without blanks at its two ends. -/
def trimBlanks (cs : List Char) : List Char := ((cs.dropWhile isBlank).reverse.dropWhile isBlank).reverse

/-- The parts of an operand list between its commas (R88). -/
def splitCommas : List Char → List (List Char)
  | [] => [[]]
  | c :: cs =>
    match c == ',', splitCommas cs with
    | true, parts => [] :: parts
    | false, [] => [[c]]
    | false, part :: parts => (c :: part) :: parts

/-- A decimal digit. -/
def decDigit (c : Char) : Option Nat :=
  if 48 ≤ c.toNat ∧ c.toNat ≤ 57 then some (c.toNat - 48) else none

/-- A hexadecimal digit, of either case (log entry 8). -/
def hexDigit (c : Char) : Option Nat :=
  if 65 ≤ c.toNat ∧ c.toNat ≤ 70 then some (c.toNat - 55)
  else if 97 ≤ c.toNat ∧ c.toNat ≤ 102 then some (c.toNat - 87)
  else decDigit c

/-- The number a list of digits spells, after what was read before it. -/
def numeral (digit : Char → Option Nat) (base acc : Nat) : List Char → Option Nat
  | [] => some acc
  | c :: cs =>
    match digit c with
    | none => none
    | some d => numeral digit base (acc * base + d) cs

/-- An operand: 0x and hexadecimal digits, or decimal digits, at least one (R88). -/
def operandValue : List Char → Option Nat
  | [] => none
  | '0' :: 'x' :: [] => none
  | '0' :: 'x' :: ds => numeral hexDigit 16 0 ds
  | ds => numeral decDigit 10 0 ds

/-- The values of all operands, none if one of them is no number. -/
def operandValues : List (List Char) → Option (List Nat)
  | [] => some []
  | part :: parts =>
    match operandValue (trimBlanks part), operandValues parts with
    | some n, some ns => some (n :: ns)
    | _, _ => none

/-- The operand list of a statement, which may be empty (R88). -/
def operandList (cs : List Char) : Option (List Nat) :=
  if trimBlanks cs = [] then some [] else operandValues (splitCommas cs)

/-- A byte operand; one that does not fit is rejected (R88). -/
def byteField (n : Nat) : Option Byte := if fitsField 8 n then some (BitVec.ofNat 8 n) else none

/-- A 16-bit operand; one that does not fit is rejected (R88). -/
def wordField (n : Nat) : Option Word16 := if fitsField 16 n then some (BitVec.ofNat 16 n) else none

/-- Byte operands; all must fit. -/
def byteFields : List Nat → Option (List Byte)
  | [] => some []
  | n :: ns =>
    match byteField n, byteFields ns with
    | some b, some bs => some (b :: bs)
    | _, _ => none

/-- The eight mnemonics with their operands (R88). -/
def coreStatement (m : List Char) (ops : List Nat) : Option Instr :=
  match ops with
  | [] =>
    if m = "CRC_INIT".toList then some .crcInit
    else if m = "RX_CLEAR".toList then some .rxClear
    else if m = "DEC_READY".toList then some .decReady
    else if m = "DEC_MEAS".toList then some .decMeas
    else none
  | [b] =>
    if m = "CRC_FEED".toList then (byteField b).map .crcFeed
    else if m = "RX_PUSH".toList then (byteField b).map .rxPush
    else none
  | [a, d] =>
    match wordField a, wordField d with
    | some a, some d =>
      if m = "BUILD_RD".toList then some (.buildRd a d)
      else if m = "BUILD_WR".toList then some (.buildWr a d)
      else none
    | _, _ => none
  | _ => none

/-- The mnemonics of the pseudo-instructions with their operands (R89). -/
def pseudoStatement (m : List Char) (ops : List Nat) : Option Pseudo :=
  if m = "CRC_MSG".toList then (byteFields ops).map .crcMsg
  else if m = "RECV".toList then (byteFields ops).map .recv
  else match ops with
    | [] =>
      if m = "REQ_READY".toList then some .reqReady
      else if m = "REQ_MEAS".toList then some .reqMeas
      else if m = "SET_ASC".toList then some .setAsc
      else if m = "CLR_ASC".toList then some .clrAsc
      else none
    | [v] =>
      if m = "START_CONT".toList then (wordField v).map .startCont
      else if m = "STOP_CONT".toList then (wordField v).map .stopCont
      else if m = "SET_INTERVAL".toList then (wordField v).map .setInterval
      else if m = "SET_ALT".toList then (wordField v).map .setAlt
      else if m = "SET_FRC".toList then (wordField v).map .setFrc
      else if m = "SET_TOFF".toList then (wordField v).map .setToff
      else none
    | _ => none

/-- `.word40 w`: the raw word, for undefined encodings (R88). -/
def rawStatement (m : List Char) (ops : List Nat) : Option Cmd40 :=
  match ops with
  | [w] => if m = ".word40".toList && fitsField 40 w then some (BitVec.ofNat 40 w) else none
  | _ => none

/-- The words of a statement; none where the assembler rejects it. -/
def assembleStatement (m : List Char) (ops : List Nat) : Option (List Cmd40) :=
  match coreStatement m ops, pseudoStatement m ops, rawStatement m ops with
  | some i, _, _ => some [encode i]
  | none, some p, _ => some (p.expand.map encode)
  | none, none, some w => some [w]
  | none, none, none => none

/-- The words of one line: a statement or nothing, and a comment from the first semicolon on (R88). -/
def assembleLine (line : List Char) : Option (List Cmd40) :=
  let body := trimBlanks (line.takeWhile (· != ';'))
  let m := body.takeWhile fun c => !isBlank c
  if body = [] then some []
  else match operandList (body.drop m.length) with
    | none => none
    | some ops => assembleStatement m ops

/-- The hexadecimal digit of a number below 16. -/
def hexChar (n : Nat) : Char := if n < 10 then Char.ofNat (48 + n) else Char.ofNat (55 + n)

/-- A byte as 0x and two digits. -/
def byteText (b : Byte) : List Char := ['0', 'x', hexChar (b.toNat / 16), hexChar (b.toNat % 16)]

/-- A 16-bit value as 0x and four digits. -/
def wordText (v : Word16) : List Char :=
  ['0', 'x', hexChar (v.toNat / 4096), hexChar (v.toNat / 256 % 16), hexChar (v.toNat / 16 % 16), hexChar (v.toNat % 16)]

/-- A command as a line of the assembler (R88), its numbers in hexadecimal at full width (log entry 8). -/
def lineOf : Instr → List Char
  | .crcInit     => "CRC_INIT".toList
  | .crcFeed b   => "CRC_FEED ".toList ++ byteText b
  | .buildRd a d => "BUILD_RD ".toList ++ wordText a ++ ", ".toList ++ wordText d
  | .buildWr a d => "BUILD_WR ".toList ++ wordText a ++ ", ".toList ++ wordText d
  | .rxClear     => "RX_CLEAR".toList
  | .rxPush b    => "RX_PUSH ".toList ++ byteText b
  | .decReady    => "DEC_READY".toList
  | .decMeas     => "DEC_MEAS".toList

end Sys2Proof.Machine
end

