-- ==== Sys2Proof/Safety.lean ====
section
/-! DEFINITION. The terms the statements use: when a state is well formed, and which registers a step leaves alone. -/

namespace Sys2Proof.Machine

/-- A state the spec allows (R20): the parameter is at least 17 (R5), `0 <= RXLEN <= RX_CAP` (R26), and the
reserved bits of STATUS are 0 (R31). -/
abbrev State.WellFormed (s : State) : Prop :=
  Config.rxCapMin ≤ s.rxCap ∧ s.rxLen ≤ s.rxCap ∧ s.status.extractLsb' 3 5 = 0#5

/-- The fields of State, one name each: the components of the tuple of R20 and the model's own two. -/
inductive Reg where
  | crcH | crcL | tx | rx | ready | measCo2 | measTemp | measHum | status | rxCap | inputs
deriving DecidableEq, Repr

/-- Two states hold the same value in a field. -/
def Reg.Same : Reg → State → State → Prop
  | .crcH, s, t     => t.crcH = s.crcH
  | .crcL, s, t     => t.crcL = s.crcL
  | .tx, s, t       => t.tx = s.tx
  | .rx, s, t       => t.rx = s.rx
  | .ready, s, t    => t.ready = s.ready
  | .measCo2, s, t  => t.measCo2 = s.measCo2
  | .measTemp, s, t => t.measTemp = s.measTemp
  | .measHum, s, t  => t.measHum = s.measHum
  | .status, s, t   => t.status = s.status
  | .rxCap, s, t    => t.rxCap = s.rxCap
  | .inputs, s, t   => t.inputs = s.inputs

/-- The frame: from `s` to `t` every field is unchanged but the ones named. -/
def OnlyWrites (written : List Reg) (s t : State) : Prop := ∀ r, r ∉ written → r.Same s t

/-- The step from `s` is a step under the input `rst` (R230). -/
def WasReset (s : State) : Prop := ∃ p rest, s.inputs = p :: rest ∧ p.rst = true

/-- The step from `s` executes the word `c`: `rst` = 0 and `cmd_valid` = 1 (R51). -/
def WasIssued (s : State) (c : Cmd40) : Prop :=
  ∃ p rest, s.inputs = p :: rest ∧ p.rst = false ∧ p.cmdValid = true ∧ p.cmd = c

/-- The step from `s` runs the command `i`. -/
def Ran (s : State) (i : Instr) : Prop := ∃ c, WasIssued s c ∧ decode c = .ok i

/-- The step from `s` executes an undefined word (R83). -/
def RanUndefined (s : State) : Prop := ∃ c e, WasIssued s c ∧ decode c = .error e

/-- The word raises ILLEGAL and changes nothing else, in every state the host issues it in (R83 to R85). -/
def RaisesIllegalOnly (c : Cmd40) : Prop :=
  ∀ s rest, s.inputs = wordSample c :: rest →
    ∃ t, step s = .next t ∧ t.status = s.status ||| 0x04#8 ∧ t.inputs = rest ∧
      OnlyWrites [.status, .inputs] s t

/-- The machine after `n` steps. -/
def runSteps : Nat → State → Answer
  | 0, s => .next s
  | n + 1, s =>
    match step s with
    | .next t => runSteps n t
    | .fault r => .fault r
    | .refused r => .refused r

end Sys2Proof.Machine
end

