-- ==== Sys2Proof/Certificates/Slice0/Obligations.lean ====
section
/-! DEFINITION. The statements for the provers, from the numbered rules of spec/. Every one holds for every value
of the parameter `RX_CAP`, except where well-formedness of the state is a hypothesis. -/

open Sys2Proof Sys2Proof.Machine

/-! Encoding and decoding. -/

/-- One word of each command, written out field by field from the format of R80 and the vectors of
95_test_vectors.md, decodes to that command. -/
def Obligations.WrittenOutWordsDecode : Prop :=
  decode 0x1000000000#40 = .ok .crcInit ∧
  decode 0x2000000041#40 = .ok (.crcFeed 0x41#8) ∧
  decode 0x3000270001#40 = .ok (.buildRd 0x0027#16 0x0001#16) ∧
  decode 0x40003603F5#40 = .ok (.buildWr 0x0036#16 0x03F5#16) ∧
  decode 0x5000000000#40 = .ok .rxClear ∧
  decode 0x60000000FF#40 = .ok (.rxPush 0xFF#8) ∧
  decode 0x7000000000#40 = .ok .decReady ∧
  decode 0x8000000000#40 = .ok .decMeas

/-- R82: a word runs a command only if its fields match the command's row exactly, and any other word is
undefined. -/
def Obligations.DecodeFollowsOpcodeMap : Prop :=
  ∀ (c : Cmd40) (i : Instr), decode c = .ok i ↔
    (c.extractLsb' 32 4 = 0#4 ∧
      match i with
      | .crcInit     => c.extractLsb' 36 4 = 0x1#4 ∧ c.extractLsb' 16 16 = 0#16 ∧ c.extractLsb' 0 16 = 0#16
      | .crcFeed b   => c.extractLsb' 36 4 = 0x2#4 ∧ c.extractLsb' 16 16 = 0#16 ∧ c.extractLsb' 0 16 = 0x00#8 ++ b
      | .buildRd a d => c.extractLsb' 36 4 = 0x3#4 ∧ c.extractLsb' 16 16 = a ∧ c.extractLsb' 0 16 = d
      | .buildWr a d => c.extractLsb' 36 4 = 0x4#4 ∧ c.extractLsb' 16 16 = a ∧ c.extractLsb' 0 16 = d
      | .rxClear     => c.extractLsb' 36 4 = 0x5#4 ∧ c.extractLsb' 16 16 = 0#16 ∧ c.extractLsb' 0 16 = 0#16
      | .rxPush b    => c.extractLsb' 36 4 = 0x6#4 ∧ c.extractLsb' 16 16 = 0#16 ∧ c.extractLsb' 0 16 = 0x00#8 ++ b
      | .decReady    => c.extractLsb' 36 4 = 0x7#4 ∧ c.extractLsb' 16 16 = 0#16 ∧ c.extractLsb' 0 16 = 0#16
      | .decMeas     => c.extractLsb' 36 4 = 0x8#4 ∧ c.extractLsb' 16 16 = 0#16 ∧ c.extractLsb' 0 16 = 0#16)

/-- Decoding the word of any command, with its operands at any value, gives the command back. -/
def Obligations.DecodeOfEncodeIsTheCommand : Prop := ∀ i : Instr, decode (encode i) = .ok i

/-- A word that decodes to a command is the command's own word: no command has two words. -/
def Obligations.EncodeOfDecodeIsTheWord : Prop :=
  ∀ (c : Cmd40) (i : Instr), decode c = .ok i → encode i = c

/-- The decode function of R83 and the mask and match columns of opcode_table.json agree: a word decodes
to a command exactly when some row admits it, it is then the command's own row, and no word fits two rows. -/
def Obligations.DecodeAgreesWithOpcodeTable : Prop :=
  ∀ c : Cmd40, ((∃ i, decode c = .ok i) ↔ wordWellFormed c = true) ∧
    (∀ i, decode c = .ok i → i.row.admits c = true) ∧
    (opcodeTable.filter (TableRow.admits · c)).length ≤ 1

/-- R84: a word with a reserved opcode, the all-zero word among them, is undefined: it raises ILLEGAL and
changes nothing else. That the step takes the issued sample off the host's list is the model's choice (log entry 1). -/
def Obligations.ReservedOpcodeRaisesIllegalOnly : Prop :=
  (∀ c : Cmd40, c.extractLsb' 36 4 = 0x0#4 ∨ 0x9#4 ≤ c.extractLsb' 36 4 →
    (∃ e, decode c = .error e) ∧ RaisesIllegalOnly c) ∧
  (∃ e, decode 0x0000000000#40 = .error e) ∧ RaisesIllegalOnly 0x0000000000#40

/-- R85: a word with a defined opcode but a nonzero reserved field is undefined, with the same effect. The
reserved fields are `Z` in every word, `A` outside BUILD_RD/BUILD_WR, `D` outside
BUILD_RD/BUILD_WR/CRC_FEED/RX_PUSH, and `D[15:8]` in CRC_FEED/RX_PUSH. That the step takes the issued sample off the
host's list is the model's choice (log entry 1). -/
def Obligations.NonzeroReservedFieldRaisesIllegalOnly : Prop :=
  ∀ c : Cmd40, 0x1#4 ≤ c.extractLsb' 36 4 → c.extractLsb' 36 4 ≤ 0x8#4 →
    (c.extractLsb' 32 4 ≠ 0#4 ∨
      (c.extractLsb' 36 4 ∉ [0x3#4, 0x4#4] ∧ c.extractLsb' 16 16 ≠ 0#16) ∨
      (c.extractLsb' 36 4 ∉ [0x3#4, 0x4#4, 0x2#4, 0x6#4] ∧ c.extractLsb' 0 16 ≠ 0#16) ∨
      (c.extractLsb' 36 4 ∈ [0x2#4, 0x6#4] ∧ c.extractLsb' 8 8 ≠ 0#8)) →
    (∃ e, decode c = .error e) ∧ RaisesIllegalOnly c

/-! The step, the input ports and reset. -/

/-- When the host issues a word that decodes to a command, the step is that command's meaning, in the state
with that sample taken. -/
def Obligations.StepRunsTheDecodedCommand : Prop :=
  ∀ (s : State) (c : Cmd40) (i : Instr) (rest : List PortSample),
    s.inputs = wordSample c :: rest → decode c = .ok i → step s = exec i { s with inputs := rest }

/-- A step in which the host issues no command leaves the block as it is (R51, R212): `cmd_valid` = 0 (log
entry 3), or nothing driven at all (log entry 1). -/
def Obligations.StepWithoutCommandHoldsState : Prop :=
  (∀ s : State, s.inputs = [] → step s = .next s) ∧
  (∀ (s : State) (p : PortSample) (rest : List PortSample),
    s.inputs = p :: rest → p.rst = false → p.cmdValid = false → step s = .next { s with inputs := rest })

/-- A step under `rst` leaves the reset state, whatever command stands on the port in the same step. What it
leaves of the model's own two fields is log entry 4. -/
def Obligations.ResetInputWinsOverCommand : Prop :=
  ∀ (s : State) (p : PortSample) (rest : List PortSample), s.inputs = p :: rest → p.rst = true →
    step s = .next { State.reset with rxCap := s.rxCap, inputs := rest }

/-- R231: the value of every register after reset. -/
def Obligations.ResetStateHoldsGivenValues : Prop :=
  State.reset.crcH = 0xFF#8 ∧ State.reset.crcL = 0xFF#8 ∧ State.reset.crcResult = 0xFFFF#16 ∧
  State.reset.tx.toList = List.replicate 8 0x00#8 ∧
  State.reset.rx = [] ∧ State.reset.rxLen = 0 ∧ State.reset.ready = false ∧
  State.reset.measCo2 = 0x0000#16 ∧ State.reset.measTemp = 0x00000000#32 ∧
  State.reset.measHum = 0x00000000#32 ∧
  State.reset.status = 0x00#8 ∧ ∀ f : Flag, State.reset.flag f = false

/-- Every step from every state answers a next state: no trap, no fault, no refusal (R7, R200). -/
def Obligations.StepAlwaysAnswersNext : Prop := ∀ s : State, ∃ t, step s = .next t

/-- A step takes exactly one sample the host drives, in order, and never changes the parameter `RX_CAP`. -/
def Obligations.StepTakesOneSampleInOrder : Prop :=
  ∀ s t : State, step s = .next t → t.inputs = s.inputs.tail ∧ t.rxCap = s.rxCap

/-- The invariant: a parameter the spec allows, `RXLEN <= RX_CAP`, and the reserved bits of STATUS at 0.
Every step keeps it. -/
def Obligations.StepKeepsStateWellFormed : Prop :=
  ∀ s t : State, s.WellFormed → step s = .next t → t.WellFormed

/-- The state after reset meets the invariant. -/
def Obligations.ResetStateIsWellFormed : Prop := State.reset.WellFormed

/-! Whole-machine rules: who writes what. -/

/-- R205: a set flag is cleared by its own cause, and by nothing else. INCOMPLETE by a DEC_MEAS with
`RXLEN >= 15`, RXOVF by RX_CLEAR, ILLEGAL by no command, and each of them by reset. -/
def Obligations.FlagsAreClearedOnlyAsRuled : Prop :=
  ∀ s t : State, step s = .next t →
    (s.flag .incomplete = true → (t.flag .incomplete = false ↔ WasReset s ∨ (Ran s .decMeas ∧ 15 ≤ s.rx.length))) ∧
    (s.flag .rxovf = true → (t.flag .rxovf = false ↔ WasReset s ∨ Ran s .rxClear)) ∧
    (s.flag .illegal = true → (t.flag .illegal = false ↔ WasReset s))

/-- A clear flag is set by its own cause, and by nothing else (R31, R201): INCOMPLETE by a DEC_MEAS with
`RXLEN < 15`, RXOVF by a RX_PUSH into a full buffer, ILLEGAL by an undefined word. -/
def Obligations.FlagsAreSetOnlyAsRuled : Prop :=
  ∀ s t : State, step s = .next t →
    (s.flag .incomplete = false → (t.flag .incomplete = true ↔ Ran s .decMeas ∧ s.rx.length < 15)) ∧
    (s.flag .rxovf = false → (t.flag .rxovf = true ↔ (∃ b, Ran s (.rxPush b)) ∧ s.rxCap ≤ s.rx.length)) ∧
    (s.flag .illegal = false → (t.flag .illegal = true ↔ RanUndefined s))

/-- R203: a flag that a step raises is ILLEGAL by an undefined word, RXOVF by a RX_PUSH or INCOMPLETE by a
DEC_MEAS; an undefined word raises nothing else, and no step raises two flags. -/
def Obligations.StepRaisesAtMostOneFlag : Prop :=
  ∀ s t : State, step s = .next t →
    (∀ f : Flag, s.flag f = false → t.flag f = true →
      (f = .illegal ∧ RanUndefined s) ∨ (f = .rxovf ∧ ∃ b, Ran s (.rxPush b)) ∨ (f = .incomplete ∧ Ran s .decMeas)) ∧
    (RanUndefined s → t.flag .illegal = true ∧ ∀ f : Flag, f ≠ .illegal → t.flag f = s.flag f) ∧
    (∀ f g : Flag, s.flag f = false → t.flag f = true → s.flag g = false → t.flag g = true → f = g)

/-- R32: only DEC_READY writes READY, only DEC_MEAS writes INCOMPLETE, only RX_PUSH sets and only RX_CLEAR
clears RXOVF, no command writes ILLEGAL and an undefined word sets it; and no command reads a flag: from two states
that agree but for STATUS and READY a command leaves every other register the same in both, and READY and each bit
of STATUS either the same in both or in both as it was. The spec marks R32 as its own inference from the rules of
the commands. -/
def Obligations.FlagsHaveTheirWritersAndNoReader : Prop :=
  (∀ (i : Instr) (s t : State), exec i s = .next t →
    (t.ready ≠ s.ready → i = .decReady) ∧
    (t.flag .incomplete ≠ s.flag .incomplete → i = .decMeas) ∧
    (s.flag .rxovf = false → t.flag .rxovf = true → ∃ b, i = .rxPush b) ∧
    (s.flag .rxovf = true → t.flag .rxovf = false → i = .rxClear) ∧
    t.flag .illegal = s.flag .illegal) ∧
  (∀ (c : Cmd40) (e : Undefined) (s t : State), decode c = .error e → issueWord c s = .next t →
    t.flag .illegal = true ∧ t.ready = s.ready ∧ ∀ f, f ≠ .illegal → t.flag f = s.flag f) ∧
  (∀ (i : Instr) (s s' t t' : State), OnlyWrites [.status, .ready] s s' →
    exec i s = .next t → exec i s' = .next t' →
    OnlyWrites [.status, .ready] t t' ∧
    (t'.ready = t.ready ∨ (t.ready = s.ready ∧ t'.ready = s'.ready)) ∧
    ∀ k, t'.status.getLsbD k = t.status.getLsbD k ∨
      (t.status.getLsbD k = s.status.getLsbD k ∧ t'.status.getLsbD k = s'.status.getLsbD k))

/-- Each register is changed only by the commands its rule names as its writers, and by reset (R22, R23, R25 to
R30): a step that changes it was one of those. -/
def Obligations.RegistersHaveOnlyTheirWriters : Prop :=
  ∀ s t : State, step s = .next t → ¬ WasReset s →
    ((t.crcH ≠ s.crcH ∨ t.crcL ≠ s.crcL) →
      Ran s .crcInit ∨ (∃ b, Ran s (.crcFeed b)) ∨ (∃ a d, Ran s (.buildRd a d)) ∨ (∃ a d, Ran s (.buildWr a d))) ∧
    (t.tx ≠ s.tx → (∃ a d, Ran s (.buildRd a d)) ∨ (∃ a d, Ran s (.buildWr a d))) ∧
    (t.rx ≠ s.rx → Ran s .rxClear ∨ ∃ b, Ran s (.rxPush b)) ∧
    (t.ready ≠ s.ready → Ran s .decReady) ∧
    ((t.measCo2 ≠ s.measCo2 ∨ t.measTemp ≠ s.measTemp ∨ t.measHum ≠ s.measHum) →
      Ran s .decMeas ∧ 15 ≤ s.rx.length)

/-- From a state with ILLEGAL clear, after any number of steps without reset, ILLEGAL is still clear exactly
when every word issued in them was defined: a host that reads ILLEGAL = 0 knows that no undefined word has
arrived (R205). The words are those on the host's list of samples, the model's choice (log entry 1). -/
def Obligations.IllegalClearMeansEveryWordWasDefined : Prop :=
  ∀ (n : Nat) (s t : State), runSteps n s = .next t → s.flag .illegal = false →
    (∀ p ∈ s.inputs.take n, p.rst = false) →
    (t.flag .illegal = false ↔ ∀ p ∈ s.inputs.take n, p.cmdValid = true → ∃ i, decode p.cmd = .ok i)

/-! The CRC generator. -/

/-- R134: CRC_INIT. Its one word, the seed, and its frame; twice is the same as once. -/
def Obligations.CrcInitSeedsTheGenerator : Prop :=
  (∀ c : Cmd40, decode c = .ok .crcInit ↔ c = 0x1000000000#40) ∧
  (∀ c : Cmd40, c.extractLsb' 36 4 = 0x1#4 → c ≠ 0x1000000000#40 → ∃ e, decode c = .error e) ∧
  (∀ s : State, ∃ t, exec .crcInit s = .next t ∧ t.crcH = 0xFF#8 ∧ t.crcL = 0xFF#8 ∧
    t.crcResult = 0xFFFF#16 ∧ OnlyWrites [.crcH, .crcL] s t ∧ exec .crcInit t = .next t)

/-- R135: CRC_FEED. Its words, the step of the two running bytes from their old values, its frame, and the
values the rule gives from the seed. -/
def Obligations.CrcFeedStepsTheGenerator : Prop :=
  (∀ (c : Cmd40) (b : Byte), decode c = .ok (.crcFeed b) ↔
    c &&& 0xFFFFFFFF00#40 = 0x2000000000#40 ∧ b = c.extractLsb' 0 8) ∧
  (∀ (b : Byte) (s : State), ∃ t, exec (.crcFeed b) s = .next t ∧
    t.crcH = s.crcL ^^^ crcTh (s.crcH ^^^ b) ∧ t.crcL = crcTl (s.crcH ^^^ b) ∧
    OnlyWrites [.crcH, .crcL] s t) ∧
  (∀ s t : State, s.crcH = 0xFF#8 → s.crcL = 0xFF#8 →
    (exec (.crcFeed 0x61#8) s = .next t → t.crcResult = 0x7EA8#16) ∧
    (exec (.crcFeed 0x00#8) s = .next t → t.crcResult = 0xBF40#16) ∧
    (exec (.crcFeed 0xFF#8) s = .next t → t.crcResult = 0xFF00#16)) ∧
  crcTh 0x9E#8 = 0x81#8 ∧ crcTl 0x9E#8 = 0xA8#8

/-- R131: every entry of the two printed tables is the byte of `T(i)` the rule says, where `T(i)` is the
division of `i` by 0xA001, eight shifts. -/
def Obligations.CrcTablesComeFromTheGenerator : Prop :=
  ∀ i : Byte, crcTh i = (crcEntry i).extractLsb' 0 8 ∧ crcTl i = (crcEntry i).extractLsb' 8 8

/-- R132: every entry of `TH` is one of eight values. -/
def Obligations.CrcHighTableHasEightValues : Prop :=
  ∀ i : Byte, crcTh i ∈ [0x00#8, 0xC1#8, 0x81#8, 0x40#8, 0x01#8, 0xC0#8, 0x80#8, 0x41#8]

/-- R138, R136: whatever the message and whatever state the block is in, the words of CRC_INIT and one
CRC_FEED per byte, run by the machine's own steps, leave the CRC-16/MODBUS value of the table-free algorithm in
`CRC_L ++ CRC_H`, and change nothing else. The spec marks the equality as its own inference from R131. The host's
list of samples, from which the steps take the words, is the model's choice (log entry 1). -/
def Obligations.MessageCrcIsTableFreeModbusCrc : Prop :=
  ∀ (bytes : List Byte) (s : State) (rest : List PortSample),
    s.inputs = commandSamples (Pseudo.crcMsg bytes).expand ++ rest →
    ∃ t, runSteps (bytes.length + 1) s = .next t ∧
      t.crcL ++ t.crcH = crc16ModbusBitwise bytes ∧ t.inputs = rest ∧
      OnlyWrites [.crcH, .crcL, .inputs] s t

/-- R139: a message followed by its own two CRC bytes in wire order, fed from the seed, ends at 0x0000. The spec
marks R139 as its own inference from R137 and the residue property of such a CRC. The host's list of samples is the
model's choice (log entry 1). -/
def Obligations.MessageWithItsCrcHasResidueZero : Prop :=
  ∀ (bytes : List Byte) (s s' t t' : State) (rest rest' : List PortSample),
    s.inputs = commandSamples (Pseudo.crcMsg bytes).expand ++ rest →
    runSteps (bytes.length + 1) s = .next t →
    s'.inputs = commandSamples (Pseudo.crcMsg (bytes ++ [t.crcH, t.crcL])).expand ++ rest' →
    runSteps (bytes.length + 3) s' = .next t' →
    t'.crcH = 0x00#8 ∧ t'.crcL = 0x00#8 ∧ t'.crcResult = 0x0000#16

/-! The frame encoder. -/

/-- R112: BUILD_RD. Its words, the frame of R111 with function code 0x03, the CRC registers, its frame, and the
rule's own examples. -/
def Obligations.BuildRdWritesTheRequestFrame : Prop :=
  (∀ (c : Cmd40) (a d : Word16), decode c = .ok (.buildRd a d) ↔
    c &&& 0xFF00000000#40 = 0x3000000000#40 ∧ a = c.extractLsb' 16 16 ∧ d = c.extractLsb' 0 16) ∧
  (∀ (a d : Word16) (s : State), ∃ t, exec (.buildRd a d) s = .next t ∧
    (∃ k : CrcPair, k = [0x61#8, 0x03#8, a.extractLsb' 8 8, a.extractLsb' 0 8, d.extractLsb' 8 8,
        d.extractLsb' 0 8].foldl CrcPair.feed ⟨0xFF#8, 0xFF#8⟩ ∧
      t.tx = ⟨0x61#8, 0x03#8, a.extractLsb' 8 8, a.extractLsb' 0 8, d.extractLsb' 8 8, d.extractLsb' 0 8, k.h, k.l⟩ ∧
      t.crcH = k.h ∧ t.crcL = k.l) ∧
    t.crcResult = t.tx.b6 ++ t.tx.b7 ∧ OnlyWrites [.tx, .crcH, .crcL] s t) ∧
  (∀ s t : State,
    (exec (.buildRd 0x0000#16 0x0000#16) s = .next t →
      t.tx = ⟨0x61#8, 0x03#8, 0x00#8, 0x00#8, 0x00#8, 0x00#8, 0x4C#8, 0x6A#8⟩) ∧
    (exec (.buildRd 0xFFFF#16 0xFFFF#16) s = .next t →
      t.tx = ⟨0x61#8, 0x03#8, 0xFF#8, 0xFF#8, 0xFF#8, 0xFF#8, 0x4D#8, 0xFE#8⟩) ∧
    (exec (.buildRd 0x0027#16 0x0001#16) s = .next t →
      t.tx = ⟨0x61#8, 0x03#8, 0x00#8, 0x27#8, 0x00#8, 0x01#8, 0x3D#8, 0xA1#8⟩ ∧ t.crcResult = 0x3DA1#16))

/-- R113: BUILD_WR. Its words, the frame of R111 with function code 0x06, the CRC registers, its frame, and the
rule's own examples. -/
def Obligations.BuildWrWritesTheRequestFrame : Prop :=
  (∀ (c : Cmd40) (a d : Word16), decode c = .ok (.buildWr a d) ↔
    c &&& 0xFF00000000#40 = 0x4000000000#40 ∧ a = c.extractLsb' 16 16 ∧ d = c.extractLsb' 0 16) ∧
  (∀ (a d : Word16) (s : State), ∃ t, exec (.buildWr a d) s = .next t ∧
    (∃ k : CrcPair, k = [0x61#8, 0x06#8, a.extractLsb' 8 8, a.extractLsb' 0 8, d.extractLsb' 8 8,
        d.extractLsb' 0 8].foldl CrcPair.feed ⟨0xFF#8, 0xFF#8⟩ ∧
      t.tx = ⟨0x61#8, 0x06#8, a.extractLsb' 8 8, a.extractLsb' 0 8, d.extractLsb' 8 8, d.extractLsb' 0 8, k.h, k.l⟩ ∧
      t.crcH = k.h ∧ t.crcL = k.l) ∧
    t.crcResult = t.tx.b6 ++ t.tx.b7 ∧ OnlyWrites [.tx, .crcH, .crcL] s t) ∧
  (∀ s t : State,
    (exec (.buildWr 0x0000#16 0x0000#16) s = .next t →
      t.tx = ⟨0x61#8, 0x06#8, 0x00#8, 0x00#8, 0x00#8, 0x00#8, 0x80#8, 0x6A#8⟩) ∧
    (exec (.buildWr 0xFFFF#16 0xFFFF#16) s = .next t →
      t.tx = ⟨0x61#8, 0x06#8, 0xFF#8, 0xFF#8, 0xFF#8, 0xFF#8, 0x81#8, 0xFE#8⟩) ∧
    (exec (.buildWr 0x0036#16 0x0000#16) s = .next t →
      t.tx = ⟨0x61#8, 0x06#8, 0x00#8, 0x36#8, 0x00#8, 0x00#8, 0x60#8, 0x64#8⟩ ∧ t.crcResult = 0x6064#16))

/-- R54, R110: the frame in wire order, its CRC being that of the table-free algorithm over the first six bytes;
that equality rests on R137 and R138 and the spec marks it as its own inference from R131. Byte 6 is `CRC_H`, which is `CRC_RESULT[15:8]` and the standard value's low-order byte; byte 7 is `CRC_L`, which is
`CRC_RESULT[7:0]` and its high-order byte. -/
def Obligations.RequestFrameCarriesItsModbusCrc : Prop :=
  ∀ (fc : Byte) (a d : Word16) (i : Instr) (s t : State),
    ((fc = 0x03#8 ∧ i = .buildRd a d) ∨ (fc = 0x06#8 ∧ i = .buildWr a d)) → exec i s = .next t →
    ∃ std : Word16,
      std = crc16ModbusBitwise
        [0x61#8, fc, a.extractLsb' 8 8, a.extractLsb' 0 8, d.extractLsb' 8 8, d.extractLsb' 0 8] ∧
      t.tx.toList = [0x61#8, fc, a.extractLsb' 8 8, a.extractLsb' 0 8, d.extractLsb' 8 8, d.extractLsb' 0 8,
        std.extractLsb' 0 8, std.extractLsb' 8 8] ∧
      t.tx.b6 = t.crcH ∧ t.tx.b7 = t.crcL ∧
      t.crcResult.extractLsb' 8 8 = t.tx.b6 ∧ t.crcResult.extractLsb' 0 8 = t.tx.b7

/-- R114: the frame and the CRC registers after a BUILD depend only on the opcode, A and D, and a BUILD
completes in every state with exactly 8 bytes in `TX`. The spec marks the part on the CRC registers as its own
inference from R111. -/
def Obligations.BuildDependsOnItsOperandsOnly : Prop :=
  ∀ (a d : Word16) (i : Instr) (s s' : State), i = .buildRd a d ∨ i = .buildWr a d →
    ∃ t t', exec i s = .next t ∧ exec i s' = .next t' ∧ t.tx = t'.tx ∧ t.crcH = t'.crcH ∧ t.crcL = t'.crcL ∧
      t.tx.toList.length = 8

/-- A frame just built, all of its 8 bytes fed to the generator from the seed by the machine's own steps, has
the residue 0x0000 (R139, an inference of the spec's own, on the request frame of R110). The host's list of samples
is the model's choice (log entry 1). -/
def Obligations.BuiltFrameChecksToResidueZero : Prop :=
  ∀ (a d : Word16) (i : Instr) (s t : State) (rest : List PortSample), i = .buildRd a d ∨ i = .buildWr a d →
    exec i s = .next t → t.inputs = commandSamples (Pseudo.crcMsg t.tx.toList).expand ++ rest →
    ∃ u, runSteps 9 t = .next u ∧ u.crcResult = 0x0000#16

/-! The receive buffer. -/

/-- R151: RX_CLEAR. Its one word, the empty sequence, RXOVF cleared and every other bit of STATUS kept, and its
frame. -/
def Obligations.RxClearEmptiesTheSequence : Prop :=
  (∀ c : Cmd40, decode c = .ok .rxClear ↔ c = 0x5000000000#40) ∧
  (∀ s : State, ∃ t, exec .rxClear s = .next t ∧ t.rx = [] ∧ t.rxLen = 0 ∧
    t.status = s.status &&& 0xFD#8 ∧ OnlyWrites [.rx, .status] s t)

/-- R152: RX_PUSH. Its words; below the capacity the byte is appended and nothing else changes; at the
capacity RXOVF is set and nothing else changes. -/
def Obligations.RxPushAppendsOrOverflows : Prop :=
  (∀ (c : Cmd40) (b : Byte), decode c = .ok (.rxPush b) ↔
    c &&& 0xFFFFFFFF00#40 = 0x6000000000#40 ∧ b = c.extractLsb' 0 8) ∧
  (∀ (b : Byte) (s : State), s.rx.length < s.rxCap →
    ∃ t, exec (.rxPush b) s = .next t ∧ t.rx = s.rx ++ [b] ∧ t.rxLen = s.rxLen + 1 ∧ OnlyWrites [.rx] s t) ∧
  (∀ (b : Byte) (s : State), s.rxCap ≤ s.rx.length →
    ∃ t, exec (.rxPush b) s = .next t ∧ t.status = s.status ||| 0x02#8 ∧ OnlyWrites [.status] s t)

/-- The words of RX_CLEAR and one RX_PUSH per byte, run by the machine's own steps, leave the bytes in order up
to the capacity, and RXOVF exactly when some byte was lost (R89, R151, R152). That the steps take the words off the
host's list of samples and leave the rest is the model's choice (log entry 1). -/
def Obligations.ReceivedBytesFillTheBufferUpToCapacity : Prop :=
  ∀ (bytes : List Byte) (s : State) (rest : List PortSample),
    s.inputs = commandSamples (Pseudo.recv bytes).expand ++ rest →
    ∃ t, runSteps (bytes.length + 1) s = .next t ∧ t.rx = bytes.take s.rxCap ∧
      (t.flag .rxovf = true ↔ s.rxCap < bytes.length) ∧
      (∀ f, f ≠ .rxovf → t.flag f = s.flag f) ∧ t.inputs = rest ∧ OnlyWrites [.rx, .status, .inputs] s t

/-! The response decoder. -/

/-- R153: DEC_READY. Its one word; READY becomes 1 exactly when there is a fifth byte and it equals 0x01; its
frame; twice is the same as once. -/
def Obligations.DecReadyTestsTheFifthByte : Prop :=
  (∀ c : Cmd40, decode c = .ok .decReady ↔ c = 0x7000000000#40) ∧
  (∀ s : State, ∃ t, exec .decReady s = .next t ∧
    (t.ready = true ↔ 5 ≤ s.rx.length ∧ s.rx[4]? = some 0x01#8) ∧
    OnlyWrites [.ready] s t ∧ exec .decReady t = .next t)

/-- R154: DEC_MEAS. Its one word; below 15 bytes INCOMPLETE is set and nothing else changes; with 15 bytes or
more the three registers take their blocks, INCOMPLETE is cleared and nothing else changes; twice is the same
as once. -/
def Obligations.DecMeasDecodesOrReportsIncomplete : Prop :=
  (∀ c : Cmd40, decode c = .ok .decMeas ↔ c = 0x8000000000#40) ∧
  (∀ s : State, s.rx.length < 15 →
    ∃ t, exec .decMeas s = .next t ∧ t.status = s.status ||| 0x01#8 ∧ OnlyWrites [.status] s t ∧
      exec .decMeas t = .next t) ∧
  (∀ (s : State) (b0 b1 b2 b3 b4 b5 b6 b7 b8 b9 b10 b11 b12 b13 b14 : Byte) (tail : List Byte),
    s.rx = [b0, b1, b2, b3, b4, b5, b6, b7, b8, b9, b10, b11, b12, b13, b14] ++ tail →
    ∃ t, exec .decMeas s = .next t ∧ t.measCo2 = b5 ++ b6 ∧ t.measTemp = b7 ++ b8 ++ b9 ++ b10 ∧
      t.measHum = b11 ++ b12 ++ b13 ++ b14 ∧ t.status = s.status &&& 0xFE#8 ∧
      OnlyWrites [.measCo2, .measTemp, .measHum, .status] s t ∧ exec .decMeas t = .next t)

/-- R155: `be32` joins four bytes, the most significant first: `b0` is bits 31:24 and `b3` is bits 7:0, and it
equals the high word joined with the low word. -/
def Obligations.BigEndianJoinPutsFirstByteHighest : Prop :=
  ∀ b0 b1 b2 b3 : Byte,
    (be32 b0 b1 b2 b3).extractLsb' 24 8 = b0 ∧ (be32 b0 b1 b2 b3).extractLsb' 16 8 = b1 ∧
    (be32 b0 b1 b2 b3).extractLsb' 8 8 = b2 ∧ (be32 b0 b1 b2 b3).extractLsb' 0 8 = b3 ∧
    be32 b0 b1 b2 b3 = (be16 b0 b1 ++ be16 b2 b3 : BitVec 32)

/-- R157: the CO2 register takes the low half of its block, `RX[5] ++ RX[6]`; the upper half is dropped and
never saturates the value. -/
def Obligations.Co2IsTheLowHalfOfItsBlock : Prop :=
  (∀ b0 b1 b2 b3 : Byte, truncCo2 (be32 b0 b1 b2 b3) = b2 ++ b3) ∧
  (∀ s t : State, 15 ≤ s.rx.length → exec .decMeas s = .next t → t.measCo2 = s.rxByte 5 ++ s.rxByte 6) ∧
  truncCo2 (be32 0x00 0x00 0x00 0x00) = 0#16 ∧ truncCo2 (be32 0x00 0x00 0xFF 0xFF) = 65535#16 ∧
  truncCo2 (be32 0x00 0x01 0x00 0x00) = 0#16 ∧ truncCo2 (be32 0xFF 0xFF 0xFF 0xFF) = 65535#16 ∧
  truncCo2 (be32 0x44 0x00 0x00 0x00) = 0#16

/-- A Reading laid out as the documented three big-endian blocks behind any 3-byte header, with anything after
it and anything in the upper half of the CO2 block, decodes to itself, every bit of the two float patterns kept
(R154 to R157, 95_test_vectors.md L1-3). -/
def Obligations.EncodedReadingDecodesToItself : Prop :=
  ∀ (co2 upper : Word16) (temp hum : Word32) (header tail : List Byte) (s : State), header.length = 3 →
    s.rx = header ++
      [upper.extractLsb' 8 8, upper.extractLsb' 0 8, co2.extractLsb' 8 8, co2.extractLsb' 0 8,
       temp.extractLsb' 24 8, temp.extractLsb' 16 8, temp.extractLsb' 8 8, temp.extractLsb' 0 8,
       hum.extractLsb' 24 8, hum.extractLsb' 16 8, hum.extractLsb' 8 8, hum.extractLsb' 0 8] ++ tail →
    ∃ t, exec .decMeas s = .next t ∧ t.measCo2 = co2 ∧ t.measTemp = temp ∧ t.measHum = hum ∧
      t.flag .incomplete = false

/-- The decoders read only fixed offsets (R150): two responses that agree at the bytes 3 to 14 decode to the same
Reading whatever their header and whatever follows, and DEC_READY depends on the byte at index 4 alone. -/
def Obligations.DecodersIgnoreHeaderAndTrailer : Prop :=
  (∀ s s' t t' : State, 15 ≤ s.rx.length → 15 ≤ s'.rx.length →
    (∀ k, 3 ≤ k → k ≤ 14 → s.rx[k]? = s'.rx[k]?) →
    exec .decMeas s = .next t → exec .decMeas s' = .next t' →
    t.measCo2 = t'.measCo2 ∧ t.measTemp = t'.measTemp ∧ t.measHum = t'.measHum) ∧
  (∀ s s' t t' : State, s.rx[4]? = s'.rx[4]? → exec .decReady s = .next t → exec .decReady s' = .next t' →
    t.ready = t'.ready)

/-- R159: the decoders leave the response as it is, and only RX_CLEAR empties it. -/
def Obligations.DecodersKeepTheResponse : Prop :=
  (∀ (i : Instr) (s t : State), i = .decReady ∨ i = .decMeas → exec i s = .next t → t.rx = s.rx ∧ t.rxLen = s.rxLen) ∧
  (∀ (i : Instr) (s t : State), exec i s = .next t → s.rx ≠ [] → t.rx = [] → i = .rxClear)

/-! Outputs and the assembler. -/

/-- Every output of R51 shows its register, whole: `CRC_RESULT` joins the running bytes (R24); `TX0` to `TX7` are
the frame (R25); there are `RX_CAP` outputs `RXi`, each the byte held below `RXLEN` and 0x00 at and past it (R26);
`READY` and the Reading are the registers (R27 to R30); bits 7:3 of `STATUS` always read 0 (log entry 5) and its low
bits are the flags (R31). In every well-formed state `STATUS` is the register and `RXLEN` is the length held. Its width
is ceil(log2(RX_CAP + 1)), the least number of bits that can hold `RX_CAP` (log entry 10). -/
def Obligations.OutputsShowTheRegisters : Prop :=
  (∀ s : State,
    (s.outputs.crcResult = s.crcResult ∧
      s.crcResult.extractLsb' 8 8 = s.crcH ∧ s.crcResult.extractLsb' 0 8 = s.crcL) ∧
    (s.outputs.tx = [s.tx.b0, s.tx.b1, s.tx.b2, s.tx.b3, s.tx.b4, s.tx.b5, s.tx.b6, s.tx.b7] ∧
      ∀ i : Fin 8, s.outputs.tx[i.val]? = some (s.txOut i)) ∧
    (s.outputs.rx.length = s.rxCap ∧
      ∀ i, i < s.rxCap → s.outputs.rx[i]? = some (s.rxByte i)) ∧
    (∀ i, i < s.rx.length → s.rx[i]? = some (s.rxByte i)) ∧ (∀ i, s.rx.length ≤ i → s.rxByte i = 0x00#8) ∧
    (s.outputs.ready = s.readyOut ∧ s.readyOut = if s.ready then 1#1 else 0#1) ∧
    s.outputs.measCo2 = s.measCo2 ∧ s.outputs.measTemp = s.measTemp ∧ s.outputs.measHum = s.measHum ∧
    (s.outputs.status = s.statusOut ∧ s.statusOut.extractLsb' 3 5 = 0#5 ∧
      ∀ f : Flag, s.statusOut.getLsbD f.bit = s.flag f) ∧
    s.outputs.rxLen = s.rxLenOut.toNat ∧
    (s.WellFormed →
      s.statusOut = s.status ∧ s.rxLenOut.toNat = s.rx.length ∧ s.outputs.rx.take s.rx.length = s.rx)) ∧
  (∀ cap, 17 ≤ cap → 2 ^ (rxLenWidth cap - 1) < cap + 1 ∧ cap + 1 ≤ 2 ^ rxLenWidth cap)

/-- R89: the expansions of the twelve pseudo-instructions. -/
def Obligations.PseudoInstructionsExpandAsListed : Prop :=
  Pseudo.reqReady.expand = [.buildRd 0x0027#16 0x0001#16] ∧
  Pseudo.reqMeas.expand = [.buildRd 0x0028#16 0x0006#16] ∧
  (∀ p, (Pseudo.startCont p).expand = [.buildWr 0x0036#16 p]) ∧
  (∀ v, (Pseudo.stopCont v).expand = [.buildWr 0x0037#16 v]) ∧
  (∀ sec, (Pseudo.setInterval sec).expand = [.buildWr 0x0025#16 sec]) ∧
  (∀ m, (Pseudo.setAlt m).expand = [.buildWr 0x0038#16 m]) ∧
  Pseudo.setAsc.expand = [.buildWr 0x003A#16 0x0001#16] ∧
  Pseudo.clrAsc.expand = [.buildWr 0x003A#16 0x0000#16] ∧
  (∀ ppm, (Pseudo.setFrc ppm).expand = [.buildWr 0x0039#16 ppm]) ∧
  (∀ t, (Pseudo.setToff t).expand = [.buildWr 0x003B#16 t]) ∧
  (∀ bytes, (Pseudo.crcMsg bytes).expand = .crcInit :: bytes.map .crcFeed ∧
    (Pseudo.crcMsg bytes).expand.length = bytes.length + 1) ∧
  (∀ bytes, (Pseudo.recv bytes).expand = .rxClear :: bytes.map .rxPush ∧
    (Pseudo.recv bytes).expand.length = bytes.length + 1)

/-- The line of every command, its operands at any value, assembles to the command's word (R88); the form of
the line's numbers is log entry 8. -/
def Obligations.AssembledLineIsTheCommandsWord : Prop :=
  ∀ i : Instr, assembleLine (lineOf i) = some [encode i]

/-- An assembler rejects an operand that does not fit its field (R88), for the four commands with operands and
the raw word, and takes one that fits. -/
def Obligations.AssemblerRejectsOperandsThatDoNotFit : Prop :=
  (∀ n, (assembleStatement "CRC_FEED".toList [n]).isSome = decide (n ≤ 255)) ∧
  (∀ n, (assembleStatement "RX_PUSH".toList [n]).isSome = decide (n ≤ 255)) ∧
  (∀ a d, (assembleStatement "BUILD_RD".toList [a, d]).isSome = decide (a ≤ 65535 ∧ d ≤ 65535)) ∧
  (∀ a d, (assembleStatement "BUILD_WR".toList [a, d]).isSome = decide (a ≤ 65535 ∧ d ≤ 65535)) ∧
  (∀ w, (assembleStatement ".word40".toList [w]).isSome = decide (w < 2 ^ 40))
end

