-- ==== Sys2Proof/Laws/Asm.lean ====
section
/-! SUPPORT. The numbers a command's line is written with are read back (spec/30_encoding.md R88). -/

namespace Sys2Proof.Machine

theorem hexDigit_hexChar : ∀ n < 16, hexDigit (hexChar n) = some n := by decide

/-- A hexadecimal digit is no blank, no comma and no semicolon. -/
theorem hexChar_separates_nothing :
    ∀ n < 16, isBlank (hexChar n) = false ∧ (hexChar n == ',') = false ∧ (hexChar n != ';') = true := by decide

theorem operandValue_byteText : ∀ b : Byte, operandValue (byteText b) = some b.toNat := by decide

theorem operandValue_wordText (v : Word16) : operandValue (wordText v) = some v.toNat := by
  have hv := v.isLt
  simp only [wordText, operandValue, numeral]
  rw [hexDigit_hexChar _ (by omega), hexDigit_hexChar _ (by omega), hexDigit_hexChar _ (by omega),
    hexDigit_hexChar _ (by omega)]
  simp
  omega

end Sys2Proof.Machine
end

