-- ==== Sys2Proof/Laws/State.lean ====
section
/-! SUPPORT. One lemma per field of State per update, each true by rfl, so that no proof unfolds a record update. -/

namespace Sys2Proof.Machine

variable (s : State)

@[simp] theorem State.setCrc_crcH (c : CrcPair) : (s.setCrc c).crcH = c.h := rfl
@[simp] theorem State.setCrc_crcL (c : CrcPair) : (s.setCrc c).crcL = c.l := rfl
@[simp] theorem State.setCrc_tx (c : CrcPair) : (s.setCrc c).tx = s.tx := rfl
@[simp] theorem State.setCrc_rx (c : CrcPair) : (s.setCrc c).rx = s.rx := rfl
@[simp] theorem State.setCrc_ready (c : CrcPair) : (s.setCrc c).ready = s.ready := rfl
@[simp] theorem State.setCrc_measCo2 (c : CrcPair) : (s.setCrc c).measCo2 = s.measCo2 := rfl
@[simp] theorem State.setCrc_measTemp (c : CrcPair) : (s.setCrc c).measTemp = s.measTemp := rfl
@[simp] theorem State.setCrc_measHum (c : CrcPair) : (s.setCrc c).measHum = s.measHum := rfl
@[simp] theorem State.setCrc_status (c : CrcPair) : (s.setCrc c).status = s.status := rfl
@[simp] theorem State.setCrc_rxCap (c : CrcPair) : (s.setCrc c).rxCap = s.rxCap := rfl
@[simp] theorem State.setCrc_inputs (c : CrcPair) : (s.setCrc c).inputs = s.inputs := rfl

@[simp] theorem State.setTx_crcH (f : TxFrame) : (s.setTx f).crcH = s.crcH := rfl
@[simp] theorem State.setTx_crcL (f : TxFrame) : (s.setTx f).crcL = s.crcL := rfl
@[simp] theorem State.setTx_tx (f : TxFrame) : (s.setTx f).tx = f := rfl
@[simp] theorem State.setTx_rx (f : TxFrame) : (s.setTx f).rx = s.rx := rfl
@[simp] theorem State.setTx_ready (f : TxFrame) : (s.setTx f).ready = s.ready := rfl
@[simp] theorem State.setTx_measCo2 (f : TxFrame) : (s.setTx f).measCo2 = s.measCo2 := rfl
@[simp] theorem State.setTx_measTemp (f : TxFrame) : (s.setTx f).measTemp = s.measTemp := rfl
@[simp] theorem State.setTx_measHum (f : TxFrame) : (s.setTx f).measHum = s.measHum := rfl
@[simp] theorem State.setTx_status (f : TxFrame) : (s.setTx f).status = s.status := rfl
@[simp] theorem State.setTx_rxCap (f : TxFrame) : (s.setTx f).rxCap = s.rxCap := rfl
@[simp] theorem State.setTx_inputs (f : TxFrame) : (s.setTx f).inputs = s.inputs := rfl

@[simp] theorem State.setRx_crcH (bytes : List Byte) : (s.setRx bytes).crcH = s.crcH := rfl
@[simp] theorem State.setRx_crcL (bytes : List Byte) : (s.setRx bytes).crcL = s.crcL := rfl
@[simp] theorem State.setRx_tx (bytes : List Byte) : (s.setRx bytes).tx = s.tx := rfl
@[simp] theorem State.setRx_rx (bytes : List Byte) : (s.setRx bytes).rx = bytes := rfl
@[simp] theorem State.setRx_ready (bytes : List Byte) : (s.setRx bytes).ready = s.ready := rfl
@[simp] theorem State.setRx_measCo2 (bytes : List Byte) : (s.setRx bytes).measCo2 = s.measCo2 := rfl
@[simp] theorem State.setRx_measTemp (bytes : List Byte) : (s.setRx bytes).measTemp = s.measTemp := rfl
@[simp] theorem State.setRx_measHum (bytes : List Byte) : (s.setRx bytes).measHum = s.measHum := rfl
@[simp] theorem State.setRx_status (bytes : List Byte) : (s.setRx bytes).status = s.status := rfl
@[simp] theorem State.setRx_rxCap (bytes : List Byte) : (s.setRx bytes).rxCap = s.rxCap := rfl
@[simp] theorem State.setRx_inputs (bytes : List Byte) : (s.setRx bytes).inputs = s.inputs := rfl

@[simp] theorem State.setReady_crcH (v : Bool) : (s.setReady v).crcH = s.crcH := rfl
@[simp] theorem State.setReady_crcL (v : Bool) : (s.setReady v).crcL = s.crcL := rfl
@[simp] theorem State.setReady_tx (v : Bool) : (s.setReady v).tx = s.tx := rfl
@[simp] theorem State.setReady_rx (v : Bool) : (s.setReady v).rx = s.rx := rfl
@[simp] theorem State.setReady_ready (v : Bool) : (s.setReady v).ready = v := rfl
@[simp] theorem State.setReady_measCo2 (v : Bool) : (s.setReady v).measCo2 = s.measCo2 := rfl
@[simp] theorem State.setReady_measTemp (v : Bool) : (s.setReady v).measTemp = s.measTemp := rfl
@[simp] theorem State.setReady_measHum (v : Bool) : (s.setReady v).measHum = s.measHum := rfl
@[simp] theorem State.setReady_status (v : Bool) : (s.setReady v).status = s.status := rfl
@[simp] theorem State.setReady_rxCap (v : Bool) : (s.setReady v).rxCap = s.rxCap := rfl
@[simp] theorem State.setReady_inputs (v : Bool) : (s.setReady v).inputs = s.inputs := rfl

@[simp] theorem State.setReading_crcH (r : Reading) : (s.setReading r).crcH = s.crcH := rfl
@[simp] theorem State.setReading_crcL (r : Reading) : (s.setReading r).crcL = s.crcL := rfl
@[simp] theorem State.setReading_tx (r : Reading) : (s.setReading r).tx = s.tx := rfl
@[simp] theorem State.setReading_rx (r : Reading) : (s.setReading r).rx = s.rx := rfl
@[simp] theorem State.setReading_ready (r : Reading) : (s.setReading r).ready = s.ready := rfl
@[simp] theorem State.setReading_measCo2 (r : Reading) : (s.setReading r).measCo2 = r.co2 := rfl
@[simp] theorem State.setReading_measTemp (r : Reading) : (s.setReading r).measTemp = r.temp := rfl
@[simp] theorem State.setReading_measHum (r : Reading) : (s.setReading r).measHum = r.hum := rfl
@[simp] theorem State.setReading_status (r : Reading) : (s.setReading r).status = s.status := rfl
@[simp] theorem State.setReading_rxCap (r : Reading) : (s.setReading r).rxCap = s.rxCap := rfl
@[simp] theorem State.setReading_inputs (r : Reading) : (s.setReading r).inputs = s.inputs := rfl

@[simp] theorem State.setStatus_crcH (v : Byte) : (s.setStatus v).crcH = s.crcH := rfl
@[simp] theorem State.setStatus_crcL (v : Byte) : (s.setStatus v).crcL = s.crcL := rfl
@[simp] theorem State.setStatus_tx (v : Byte) : (s.setStatus v).tx = s.tx := rfl
@[simp] theorem State.setStatus_rx (v : Byte) : (s.setStatus v).rx = s.rx := rfl
@[simp] theorem State.setStatus_ready (v : Byte) : (s.setStatus v).ready = s.ready := rfl
@[simp] theorem State.setStatus_measCo2 (v : Byte) : (s.setStatus v).measCo2 = s.measCo2 := rfl
@[simp] theorem State.setStatus_measTemp (v : Byte) : (s.setStatus v).measTemp = s.measTemp := rfl
@[simp] theorem State.setStatus_measHum (v : Byte) : (s.setStatus v).measHum = s.measHum := rfl
@[simp] theorem State.setStatus_status (v : Byte) : (s.setStatus v).status = v := rfl
@[simp] theorem State.setStatus_rxCap (v : Byte) : (s.setStatus v).rxCap = s.rxCap := rfl
@[simp] theorem State.setStatus_inputs (v : Byte) : (s.setStatus v).inputs = s.inputs := rfl

@[simp] theorem State.setInputs_crcH (ins : List PortSample) : (s.setInputs ins).crcH = s.crcH := rfl
@[simp] theorem State.setInputs_crcL (ins : List PortSample) : (s.setInputs ins).crcL = s.crcL := rfl
@[simp] theorem State.setInputs_tx (ins : List PortSample) : (s.setInputs ins).tx = s.tx := rfl
@[simp] theorem State.setInputs_rx (ins : List PortSample) : (s.setInputs ins).rx = s.rx := rfl
@[simp] theorem State.setInputs_ready (ins : List PortSample) : (s.setInputs ins).ready = s.ready := rfl
@[simp] theorem State.setInputs_measCo2 (ins : List PortSample) : (s.setInputs ins).measCo2 = s.measCo2 := rfl
@[simp] theorem State.setInputs_measTemp (ins : List PortSample) : (s.setInputs ins).measTemp = s.measTemp := rfl
@[simp] theorem State.setInputs_measHum (ins : List PortSample) : (s.setInputs ins).measHum = s.measHum := rfl
@[simp] theorem State.setInputs_status (ins : List PortSample) : (s.setInputs ins).status = s.status := rfl
@[simp] theorem State.setInputs_rxCap (ins : List PortSample) : (s.setInputs ins).rxCap = s.rxCap := rfl
@[simp] theorem State.setInputs_inputs (ins : List PortSample) : (s.setInputs ins).inputs = ins := rfl

@[simp] theorem State.toReset_crcH : s.toReset.crcH = 0xFF#8 := rfl
@[simp] theorem State.toReset_crcL : s.toReset.crcL = 0xFF#8 := rfl
@[simp] theorem State.toReset_tx : s.toReset.tx = ⟨0, 0, 0, 0, 0, 0, 0, 0⟩ := rfl
@[simp] theorem State.toReset_rx : s.toReset.rx = [] := rfl
@[simp] theorem State.toReset_ready : s.toReset.ready = false := rfl
@[simp] theorem State.toReset_measCo2 : s.toReset.measCo2 = 0 := rfl
@[simp] theorem State.toReset_measTemp : s.toReset.measTemp = 0 := rfl
@[simp] theorem State.toReset_measHum : s.toReset.measHum = 0 := rfl
@[simp] theorem State.toReset_status : s.toReset.status = 0 := rfl
@[simp] theorem State.toReset_rxCap : s.toReset.rxCap = s.rxCap := rfl
@[simp] theorem State.toReset_inputs : s.toReset.inputs = s.inputs := rfl

end Sys2Proof.Machine
end

