-- ==== Sys2Proof/Laws/Ops.lean ====
section
/-! SUPPORT. What each shared operation can do, said once: flags, the receive sequence, the Reading, the frame,
the meanings and the sampling of the ports. -/

namespace Sys2Proof.Machine

/-! Flags. -/

@[simp] theorem State.raiseFlag_crcH (s : State) (f : Flag) : (s.raiseFlag f).crcH = s.crcH := rfl
@[simp] theorem State.raiseFlag_crcL (s : State) (f : Flag) : (s.raiseFlag f).crcL = s.crcL := rfl
@[simp] theorem State.raiseFlag_tx (s : State) (f : Flag) : (s.raiseFlag f).tx = s.tx := rfl
@[simp] theorem State.raiseFlag_rx (s : State) (f : Flag) : (s.raiseFlag f).rx = s.rx := rfl
@[simp] theorem State.raiseFlag_ready (s : State) (f : Flag) : (s.raiseFlag f).ready = s.ready := rfl
@[simp] theorem State.raiseFlag_measCo2 (s : State) (f : Flag) : (s.raiseFlag f).measCo2 = s.measCo2 := rfl
@[simp] theorem State.raiseFlag_measTemp (s : State) (f : Flag) : (s.raiseFlag f).measTemp = s.measTemp := rfl
@[simp] theorem State.raiseFlag_measHum (s : State) (f : Flag) : (s.raiseFlag f).measHum = s.measHum := rfl
@[simp] theorem State.raiseFlag_rxCap (s : State) (f : Flag) : (s.raiseFlag f).rxCap = s.rxCap := rfl
@[simp] theorem State.raiseFlag_inputs (s : State) (f : Flag) : (s.raiseFlag f).inputs = s.inputs := rfl

@[simp] theorem State.clearFlag_crcH (s : State) (f : Flag) : (s.clearFlag f).crcH = s.crcH := rfl
@[simp] theorem State.clearFlag_crcL (s : State) (f : Flag) : (s.clearFlag f).crcL = s.crcL := rfl
@[simp] theorem State.clearFlag_tx (s : State) (f : Flag) : (s.clearFlag f).tx = s.tx := rfl
@[simp] theorem State.clearFlag_rx (s : State) (f : Flag) : (s.clearFlag f).rx = s.rx := rfl
@[simp] theorem State.clearFlag_ready (s : State) (f : Flag) : (s.clearFlag f).ready = s.ready := rfl
@[simp] theorem State.clearFlag_measCo2 (s : State) (f : Flag) : (s.clearFlag f).measCo2 = s.measCo2 := rfl
@[simp] theorem State.clearFlag_measTemp (s : State) (f : Flag) : (s.clearFlag f).measTemp = s.measTemp := rfl
@[simp] theorem State.clearFlag_measHum (s : State) (f : Flag) : (s.clearFlag f).measHum = s.measHum := rfl
@[simp] theorem State.clearFlag_rxCap (s : State) (f : Flag) : (s.clearFlag f).rxCap = s.rxCap := rfl
@[simp] theorem State.clearFlag_inputs (s : State) (f : Flag) : (s.clearFlag f).inputs = s.inputs := rfl

@[simp] theorem State.flag_setCrc (s : State) (c : CrcPair) (g : Flag) : (s.setCrc c).flag g = s.flag g := rfl
@[simp] theorem State.flag_setTx (s : State) (f : TxFrame) (g : Flag) : (s.setTx f).flag g = s.flag g := rfl
@[simp] theorem State.flag_setRx (s : State) (bytes : List Byte) (g : Flag) : (s.setRx bytes).flag g = s.flag g := rfl
@[simp] theorem State.flag_setReady (s : State) (v : Bool) (g : Flag) : (s.setReady v).flag g = s.flag g := rfl
@[simp] theorem State.flag_setReading (s : State) (r : Reading) (g : Flag) : (s.setReading r).flag g = s.flag g := rfl
@[simp] theorem State.flag_setInputs (s : State) (ins : List PortSample) (g : Flag) : (s.setInputs ins).flag g = s.flag g := rfl

/-- Raising a flag sets it and leaves the others. -/
@[simp] theorem State.flag_raiseFlag (s : State) (f g : Flag) :
    (s.raiseFlag f).flag g = (s.flag g || decide (g = f)) := by
  cases f <;> cases g <;> simp [State.flag, State.raiseFlag, Flag.bit, Flag.mask]

/-- Clearing a flag clears it and leaves the others. -/
@[simp] theorem State.flag_clearFlag (s : State) (f g : Flag) :
    (s.clearFlag f).flag g = (s.flag g && decide (g ≠ f)) := by
  cases f <;> cases g <;> simp [State.flag, State.clearFlag, Flag.bit, Flag.mask]

/-- After reset no flag is set (R231). -/
@[simp] theorem State.flag_toReset (s : State) (g : Flag) : s.toReset.flag g = false := by
  cases g <;> simp [State.flag]

/-- Raising a flag, bit by bit of STATUS. -/
theorem State.status_raiseFlag_getLsbD (s : State) (f : Flag) (k : Nat) :
    (s.raiseFlag f).status.getLsbD k = (s.status.getLsbD k || f.mask.getLsbD k) := BitVec.getLsbD_or

/-- Clearing a flag, bit by bit of STATUS. -/
theorem State.status_clearFlag_getLsbD (s : State) (f : Flag) (k : Nat) :
    (s.clearFlag f).status.getLsbD k = (s.status.getLsbD k && (~~~f.mask).getLsbD k) := BitVec.getLsbD_and

/-- Raising a flag leaves the reserved bits of STATUS. -/
theorem State.reserved_raiseFlag (s : State) (f : Flag) :
    (s.raiseFlag f).status.extractLsb' 3 5 = s.status.extractLsb' 3 5 := by
  have h : f.mask.extractLsb' 3 5 = 0#5 := by cases f <;> rfl
  rw [State.raiseFlag, State.setStatus_status, BitVec.extractLsb'_or, h, BitVec.or_zero]

/-- Clearing a flag leaves the reserved bits of STATUS that are 0. -/
theorem State.reserved_clearFlag (s : State) (f : Flag) (h : s.status.extractLsb' 3 5 = 0#5) :
    (s.clearFlag f).status.extractLsb' 3 5 = 0#5 := by
  have : (s.clearFlag f).status.extractLsb' 3 5 = s.status.extractLsb' 3 5 &&& (~~~f.mask).extractLsb' 3 5 := by
    simp [State.clearFlag, BitVec.extractLsb'_and]
  rw [this, h]; simp

/-! The receive sequence and the Reading. -/

@[simp] theorem State.rxLen_setRx (s : State) (bytes : List Byte) : (s.setRx bytes).rxLen = bytes.length := rfl

/-- A received byte that the sequence holds. -/
theorem State.rxByte_of_lt (s : State) {i : Nat} (h : i < s.rx.length) : s.rxByte i = s.rx[i] := by
  simp [State.rxByte, h]

/-- All that a push can do (R152). -/
theorem State.pushRx_cases (s : State) (b : Byte) :
    (s.rxLen < s.rxCap ∧ s.pushRx b = s.setRx (s.rx ++ [b])) ∨
    (s.rxCap ≤ s.rxLen ∧ s.pushRx b = s.raiseFlag .rxovf) := by
  unfold State.pushRx
  split
  · exact .inl ⟨‹_›, rfl⟩
  · exact .inr ⟨Nat.le_of_not_lt ‹_›, rfl⟩

/-- All that decoding a measurement can do (R154). -/
theorem State.decodeMeas_cases (s : State) :
    (s.rxLen < 15 ∧ s.decodeMeas = s.raiseFlag .incomplete) ∨
    (15 ≤ s.rxLen ∧ s.decodeMeas = (s.setReading s.readingDecoded).clearFlag .incomplete) := by
  unfold State.decodeMeas
  split
  · exact .inl ⟨‹_›, rfl⟩
  · exact .inr ⟨Nat.le_of_not_lt ‹_›, rfl⟩

/-- A build writes the frame and leaves its CRC in the generator (R111). -/
@[simp] theorem State.build_eq (s : State) (fc : Byte) (a d : Word16) :
    s.build fc a d = (s.setTx (requestFrame fc a d)).setCrc (frameCrc fc a d) := rfl

/-- Clearing the receive sequence (R151). -/
@[simp] theorem State.clearRx_eq (s : State) : s.clearRx = (s.setRx []).clearFlag .rxovf := rfl

/-! The outputs. -/

@[simp] theorem State.outputs_crcResult (s : State) : s.outputs.crcResult = s.crcResult := rfl
@[simp] theorem State.outputs_tx (s : State) : s.outputs.tx = s.tx.toList := rfl
@[simp] theorem State.outputs_rxLen (s : State) : s.outputs.rxLen = s.rxLenOut.toNat := rfl
@[simp] theorem State.outputs_rx (s : State) : s.outputs.rx = (List.range s.rxCap).map s.rxByte := rfl
@[simp] theorem State.outputs_ready (s : State) : s.outputs.ready = s.readyOut := rfl
@[simp] theorem State.outputs_measCo2 (s : State) : s.outputs.measCo2 = s.measCo2 := rfl
@[simp] theorem State.outputs_measTemp (s : State) : s.outputs.measTemp = s.measTemp := rfl
@[simp] theorem State.outputs_measHum (s : State) : s.outputs.measHum = s.measHum := rfl
@[simp] theorem State.outputs_status (s : State) : s.outputs.status = s.statusOut := rfl

/-! The meanings. -/

@[simp] theorem exec_crcInit (s : State) : exec .crcInit s = .next (s.setCrc CrcPair.seed) := rfl
@[simp] theorem exec_crcFeed (b : Byte) (s : State) : exec (.crcFeed b) s = .next (s.setCrc (s.crc.feed b)) := rfl
@[simp] theorem exec_buildRd (a d : Word16) (s : State) :
    exec (.buildRd a d) s = .next ((s.setTx (requestFrame 0x03#8 a d)).setCrc (frameCrc 0x03#8 a d)) := rfl
@[simp] theorem exec_buildWr (a d : Word16) (s : State) :
    exec (.buildWr a d) s = .next ((s.setTx (requestFrame 0x06#8 a d)).setCrc (frameCrc 0x06#8 a d)) := rfl
@[simp] theorem exec_rxClear (s : State) : exec .rxClear s = .next ((s.setRx []).clearFlag .rxovf) := rfl
@[simp] theorem exec_rxPush (b : Byte) (s : State) : exec (.rxPush b) s = .next (s.pushRx b) := rfl
@[simp] theorem exec_decReady (s : State) : exec .decReady s = .next (s.setReady s.readyDecoded) := rfl
@[simp] theorem exec_decMeas (s : State) : exec .decMeas s = .next s.decodeMeas := rfl

/-! The ports and the step. -/

/-- All that a sample of the ports can do (R51, R83, R232). -/
theorem samplePorts_cases {p : PortSample} {s t : State} (h : samplePorts p s = .next t) :
    (p.rst = true ∧ t = s.toReset) ∨
    (p.rst = false ∧ p.cmdValid = false ∧ t = s) ∨
    (p.rst = false ∧ p.cmdValid = true ∧ ∃ i, decode p.cmd = .ok i ∧ exec i s = .next t) ∨
    (p.rst = false ∧ p.cmdValid = true ∧ ∃ e, decode p.cmd = .error e ∧ t = s.raiseFlag .illegal) := by
  unfold samplePorts at h
  cases hr : p.rst <;> cases hv : p.cmdValid <;> simp [hr, hv] at h
  · exact .inr (.inl ⟨rfl, rfl, h.symm⟩)
  · unfold issueWord at h
    cases hd : decode p.cmd with
    | ok i => rw [hd] at h; exact .inr (.inr (.inl ⟨rfl, rfl, i, rfl, h⟩))
    | error e => rw [hd] at h; simp at h; exact .inr (.inr (.inr ⟨rfl, rfl, e, rfl, h.symm⟩))
  · exact .inl ⟨rfl, h.symm⟩
  · exact .inl ⟨rfl, h.symm⟩

/-- All that a step can do: nothing is driven, or the next sample is taken. -/
theorem step_cases {s t : State} (h : step s = .next t) :
    (s.inputs = [] ∧ t = s) ∨
    (∃ p rest, s.inputs = p :: rest ∧ samplePorts p (s.setInputs rest) = .next t) := by
  unfold step takeInput at h
  cases hi : s.inputs with
  | nil => rw [hi] at h; simp at h; exact .inl ⟨rfl, h.symm⟩
  | cons p rest => rw [hi] at h; exact .inr ⟨p, rest, rfl, h⟩

end Sys2Proof.Machine
end

