-- ==== Sys2Proof/Laws/Crc.lean ====
section
/-! SUPPORT. The reflected division is linear (spec/41_crc.md R131, R138), and the entry 0 of the tables. -/

namespace Sys2Proof.Machine

/-- One bit of the division is linear over exclusive-or. -/
theorem crcShift_xor (x y : Word16) : crcShift (x ^^^ y) = crcShift x ^^^ crcShift y := by
  have hb : (x ^^^ y).getLsbD 0 = (x.getLsbD 0 ^^ y.getLsbD 0) := by simp
  have regroup : ∀ a b k : Word16,
      a ^^^ b = (a ^^^ k) ^^^ (b ^^^ k) ∧ a ^^^ b ^^^ k = (a ^^^ k) ^^^ b ∧ a ^^^ b ^^^ k = a ^^^ (b ^^^ k) := by
    intro a b k
    refine ⟨?_, ?_, ?_⟩ <;>
      (apply BitVec.eq_of_getLsbD_eq
       intro i hi
       simp only [BitVec.getLsbD_xor]
       generalize a.getLsbD i = p
       generalize b.getLsbD i = q
       generalize k.getLsbD i = r
       revert p q r
       decide)
  unfold crcShift
  rw [hb, BitVec.ushiftRight_xor_distrib]
  generalize 0xA001#16 = k
  cases x.getLsbD 0 <;> cases y.getLsbD 0
  · rfl
  · exact (regroup _ _ k).2.2
  · exact (regroup _ _ k).2.1
  · exact (regroup _ _ k).1

/-- Eight bits of the division are linear over exclusive-or. -/
theorem crcShift8_xor (x y : Word16) : crcShift8 (x ^^^ y) = crcShift8 x ^^^ crcShift8 y := by
  simp only [crcShift8, crcShift_xor]

/-- Eight bits of the division move a high byte down unchanged. -/
theorem crcShift8_highByte : ∀ h : Byte, crcShift8 (h ++ 0#8) = h.zeroExtend 16 := by decide

/-- The entry 0 of both tables is 0. -/
@[simp] theorem crcTh_zero : crcTh 0#8 = 0#8 := by decide

@[simp] theorem crcTl_zero : crcTl 0#8 = 0#8 := by decide

/-- The running bytes after a message and more bytes. -/
theorem crcOfBytes_append (xs ys : List Byte) : crcOfBytes (xs ++ ys) = ys.foldl CrcPair.feed (crcOfBytes xs) := by
  simp [crcOfBytes, List.foldl_append]

end Sys2Proof.Machine
end

