-- ==== Sys2Proof/Laws/Decode.lean ====
section
/-! SUPPORT. What the parts of the decoder answer (spec/30_encoding.md R82, R83), so that no proof unfolds them. -/

namespace Sys2Proof

/-- A command without operands decodes exactly when `A` and `D` are 0. -/
theorem decodePlain_ok_iff (c : Cmd40) (i j : Instr) :
    decodePlain c i = .ok j ↔ aOf c = 0 ∧ dOf c = 0 ∧ i = j := by
  unfold decodePlain
  by_cases h : aOf c = 0 <;> by_cases h2 : dOf c = 0 <;> simp_all

/-- A command with a byte operand decodes exactly when `A` and `D[15:8]` are 0. -/
theorem decodeByte_ok_iff (c : Cmd40) (mk : Byte → Instr) (j : Instr) :
    decodeByte c mk = .ok j ↔ aOf c = 0 ∧ dHiOf c = 0 ∧ mk (bOf c) = j := by
  unfold decodeByte
  by_cases h : aOf c = 0 <;> by_cases h2 : dHiOf c = 0 <;> simp_all

/-- `D` is its high byte and the byte operand. -/
theorem dOf_eq_append (c : Cmd40) : dOf c = dHiOf c ++ bOf c := by
  apply BitVec.eq_of_getLsbD_eq
  intro i hi
  simp only [dOf, dHiOf, bOf, BitVec.getLsbD_append]
  interval_cases i <;> simp

/-- `D` is `0x00 ++ b` exactly when its high byte is 0 and its low byte is `b`. -/
theorem dOf_eq_byte_iff (c : Cmd40) (b : Byte) : dOf c = 0x00#8 ++ b ↔ dHiOf c = 0 ∧ bOf c = b := by
  rw [dOf_eq_append]
  constructor
  · intro h
    have h1 := congrArg (BitVec.extractLsb' 8 8) h
    have h2 := congrArg (BitVec.extractLsb' 0 8) h
    rw [BitVec.extractLsb'_append_eq_left, BitVec.extractLsb'_append_eq_left] at h1
    rw [BitVec.extractLsb'_append_eq_right, BitVec.extractLsb'_append_eq_right] at h2
    exact ⟨h1, h2⟩
  · rintro ⟨h1, h2⟩
    rw [h1, h2]
    rfl

/-- A word is packed from its four fields. -/
theorem packWord_eq_iff (op : BitVec 4) (a d : Word16) (c : Cmd40) :
    packWord op a d = c ↔ opOf c = op ∧ zOf c = 0#4 ∧ aOf c = a ∧ dOf c = d := by
  constructor
  · rintro rfl
    refine ⟨?_, ?_, ?_, ?_⟩ <;>
      (apply BitVec.eq_of_getLsbD_eq
       intro i hi
       simp only [opOf, zOf, aOf, dOf, packWord, BitVec.getLsbD_extractLsb', BitVec.getLsbD_append]
       interval_cases i <;> simp)
  · rintro ⟨rfl, h, rfl, rfl⟩
    rw [packWord, ← h]
    apply BitVec.eq_of_getLsbD_eq
    intro i hi
    simp only [opOf, zOf, aOf, dOf, BitVec.getLsbD_extractLsb', BitVec.getLsbD_append]
    interval_cases i <;> simp

end Sys2Proof
end

