-- ==== Sys2Proof/Laws/PerInstr.lean ====
section
/-! SUPPORT. Facts about every command as syntax, one lemma per constructor of Instr. -/

namespace Sys2Proof.Laws.RowMatch

/-- The word of a command has the fixed bits of the command's own row of spec/opcode_table.json. -/
def Statement (i : Instr) : Prop := i.row.admits (encode i) = true

theorem crcInit : Statement .crcInit := by unfold Statement; decide

theorem crcFeed : ∀ b, Statement (.crcFeed b) := by unfold Statement; decide

/-- The high byte of a word with two 16-bit operands is its opcode and `Z`. -/
theorem buildWord_masked (op : BitVec 4) (a d : Word16) :
    packWord op a d &&& 0xFF00000000#40 = op ++ 0#36 := by
  apply BitVec.eq_of_getLsbD_eq
  intro i hi
  simp only [packWord, BitVec.getLsbD_and, BitVec.getLsbD_append]
  interval_cases i <;> simp

theorem buildRd : ∀ a d, Statement (.buildRd a d) := by
  intro a d
  simp [Statement, TableRow.admits, Instr.row, encode, buildWord_masked]

theorem buildWr : ∀ a d, Statement (.buildWr a d) := by
  intro a d
  simp [Statement, TableRow.admits, Instr.row, encode, buildWord_masked]

theorem rxClear : Statement .rxClear := by unfold Statement; decide

theorem rxPush : ∀ b, Statement (.rxPush b) := by unfold Statement; decide

theorem decReady : Statement .decReady := by unfold Statement; decide

theorem decMeas : Statement .decMeas := by unfold Statement; decide

end Sys2Proof.Laws.RowMatch
end

