-- ==== Sys2Proof/Laws/Step.lean ====
section
/-! SUPPORT. All that a command can do, in ten cases, and what the words of the statements about a step mean once the
next sample is known. -/

namespace Sys2Proof.Machine

/-- All that running a command can do: each command, and the two forms of RX_PUSH and of DEC_MEAS. -/
theorem exec_cases {i : Instr} {s t : State} (h : exec i s = .next t) :
    (i = .crcInit ∧ t = s.setCrc CrcPair.seed) ∨
    (∃ b, i = .crcFeed b ∧ t = s.setCrc (s.crc.feed b)) ∨
    (∃ a d, i = .buildRd a d ∧ t = (s.setTx (requestFrame 0x03#8 a d)).setCrc (frameCrc 0x03#8 a d)) ∨
    (∃ a d, i = .buildWr a d ∧ t = (s.setTx (requestFrame 0x06#8 a d)).setCrc (frameCrc 0x06#8 a d)) ∨
    (i = .rxClear ∧ t = (s.setRx []).clearFlag .rxovf) ∨
    (∃ b, i = .rxPush b ∧ s.rxLen < s.rxCap ∧ t = s.setRx (s.rx ++ [b])) ∨
    (∃ b, i = .rxPush b ∧ s.rxCap ≤ s.rxLen ∧ t = s.raiseFlag .rxovf) ∨
    (i = .decReady ∧ t = s.setReady s.readyDecoded) ∨
    (i = .decMeas ∧ s.rxLen < 15 ∧ t = s.raiseFlag .incomplete) ∨
    (i = .decMeas ∧ 15 ≤ s.rxLen ∧ t = (s.setReading s.readingDecoded).clearFlag .incomplete) := by
  cases i <;> simp at h <;> subst h <;> simp
  case rxPush b => rcases s.pushRx_cases b with ⟨h1, h2⟩ | ⟨h1, h2⟩ <;> simp [h1, h2]
  case decMeas => rcases s.decodeMeas_cases with ⟨h1, h2⟩ | ⟨h1, h2⟩ <;> simp [h1, h2]

/-- Frames compose. -/
theorem OnlyWrites.trans {l : List Reg} {s t u : State} (h1 : OnlyWrites l s t) (h2 : OnlyWrites l t u) :
    OnlyWrites l s u := by
  intro r hr
  have a := h1 r hr
  have b := h2 r hr
  cases r <;> simp_all [Reg.Same]

variable {s : State} {p : PortSample} {rest : List PortSample}

theorem wasReset_iff (h : s.inputs = p :: rest) : WasReset s ↔ p.rst = true := by simp [WasReset, h]

theorem wasIssued_iff (h : s.inputs = p :: rest) (c : Cmd40) :
    WasIssued s c ↔ p.rst = false ∧ p.cmdValid = true ∧ p.cmd = c := by
  simp [WasIssued, h]

theorem ran_iff (h : s.inputs = p :: rest) (i : Instr) :
    Ran s i ↔ p.rst = false ∧ p.cmdValid = true ∧ decode p.cmd = .ok i := by
  simp only [Ran, wasIssued_iff h]
  constructor
  · rintro ⟨c, ⟨h1, h2, rfl⟩, h3⟩
    exact ⟨h1, h2, h3⟩
  · rintro ⟨h1, h2, h3⟩
    exact ⟨_, ⟨h1, h2, rfl⟩, h3⟩

theorem ranUndefined_iff (h : s.inputs = p :: rest) :
    RanUndefined s ↔ p.rst = false ∧ p.cmdValid = true ∧ ∃ e, decode p.cmd = .error e := by
  simp only [RanUndefined, wasIssued_iff h]
  constructor
  · rintro ⟨c, e, ⟨h1, h2, rfl⟩, h3⟩
    exact ⟨h1, h2, e, h3⟩
  · rintro ⟨h1, h2, e, h3⟩
    exact ⟨_, e, ⟨h1, h2, rfl⟩, h3⟩

/-- When the host drives nothing the step is no reset and runs nothing. -/
theorem nothing_ran (h : s.inputs = []) : ¬ WasReset s ∧ (∀ i, ¬ Ran s i) ∧ ¬ RanUndefined s := by
  simp [WasReset, Ran, RanUndefined, WasIssued, h]

end Sys2Proof.Machine
end

