-- ==== Sys2Proof/Tests/Slice0.lean ====
section
/-! SUPPORT. Tests with expected results from spec/95_test_vectors.md and the rules' own examples, and a witness for
the hypotheses of every statement. -/

namespace Sys2Proof.Tests

open Sys2Proof Sys2Proof.Machine

/-! Small states. -/

/-- The reset state with the host driving these samples next. -/
def driving (ins : List PortSample) : State := { State.reset with inputs := ins }

/-- The reset state holding these received bytes. -/
def holding (bytes : List Byte) : State := { State.reset with rx := bytes }

/-- The reset state with this STATUS, holding these received bytes, the host issuing this word next. -/
def flagged (status : Byte) (bytes : List Byte) (c : Cmd40) : State :=
  { State.reset with status := status, rx := bytes, inputs := [wordSample c] }

/-- The state of an answer (the reset state for one that is no next state). -/
def stateOf : Answer → State
  | .next t => t
  | _ => State.reset

/-- The state after a command. -/
def after (i : Instr) (s : State) : State := stateOf (exec i s)

/-- The measurement response of L2-MEAS-1, the Reading 512, 21.5, 45.0 with its CRC (95 L1-3). -/
def measResponse : List Byte :=
  [0x61, 0x03, 0x0C, 0x00, 0x00, 0x02, 0x00, 0x41, 0xAC, 0x00, 0x00, 0x42, 0x34, 0x00, 0x00, 0xAE, 0xD2]

/-! Well-formedness: an ill-formed term for each check. -/

/-- L2-DEC-5, L2-DEC-2, L2-DEC-6, L2-DEC-7, L2-DEC-8: a nonzero `Z`, a reserved opcode, a nonzero `A`, `D` and `D[15:8]`. -/
theorem test_wordWellFormed_refuses :
    [0x1100000000#40, 0x9000000000#40, 0x0000000000#40, 0x1000010000#40, 0x1000000001#40, 0x2000000100#40].all
      (fun c => !wordWellFormed c) = true := by decide

theorem test_fitsField_refuses :
    (fitsField 8 256, fitsField 16 65536, fitsField 40 (2 ^ 40)) = (false, false, false) := by decide

theorem test_state_wellFormed_refuses_small_capacity :
    ¬ ({ State.reset with rxCap := 16 } : State).WellFormed := by decide

theorem test_state_wellFormed_refuses_overfull_buffer :
    ¬ (holding (List.replicate 33 0x00#8)).WellFormed := by decide

theorem test_state_wellFormed_refuses_reserved_status :
    ¬ ({ State.reset with status := 0x08#8 } : State).WellFormed := by decide

/-! Decoding: words written out from R80, one for each command, and the undefined words of 95 section 2.6. -/

theorem test_decode_crcInit : decode 0x1000000000#40 = .ok .crcInit := by decide
theorem test_decode_crcFeed : decode 0x2000000041#40 = .ok (.crcFeed 0x41#8) := by decide
theorem test_decode_buildRd : decode 0x3000270001#40 = .ok (.buildRd 0x0027#16 0x0001#16) := by decide
theorem test_decode_buildWr : decode 0x40003907D0#40 = .ok (.buildWr 0x0039#16 0x07D0#16) := by decide
theorem test_decode_rxClear : decode 0x5000000000#40 = .ok .rxClear := by decide
theorem test_decode_rxPush : decode 0x60000000FF#40 = .ok (.rxPush 0xFF#8) := by decide
theorem test_decode_decReady : decode 0x7000000000#40 = .ok .decReady := by decide
theorem test_decode_decMeas : decode 0x8000000000#40 = .ok .decMeas := by decide

/-- L2-DEC-1 to L2-DEC-4: reserved opcodes. -/
theorem test_reserved_opcodes_set_illegal :
    ([0x0000000000#40, 0x9000000000#40, 0xF000000000#40, 0xFFFFFFFFFF#40].all fun c =>
      stateOf (issueWord c State.reset) == { State.reset with status := 0x04#8 }) = true := by decide

/-- L2-DEC-5 to L2-DEC-8: `Z`, `A`, `D`, `D[15:8]` not zero. -/
theorem test_reserved_fields_set_illegal :
    ([0x1100000000#40, 0x1000010000#40, 0x1000000001#40, 0x2000000100#40].all fun c =>
      stateOf (issueWord c State.reset) == { State.reset with status := 0x04#8 }) = true := by decide

/-- L2-DEC-9 to L2-DEC-13: the same of the other commands. -/
theorem test_more_reserved_fields_set_illegal :
    ([0x2000010041#40, 0x3100270001#40, 0x6000000161#40, 0x7000000001#40, 0x80000F0000#40].all fun c =>
      stateOf (issueWord c State.reset) == { State.reset with status := 0x04#8 }) = true := by decide

/-- Each row's word, as the host of this model numbers it, is decoded and is the first step's command. -/
theorem test_withFetchWord_runs_each_row :
    ∀ r ∈ opcodeTable, ∃ i ∈ [Instr.crcInit, .crcFeed 0, .buildRd 0 0, .buildWr 0 0, .rxClear, .rxPush 0, .decReady, .decMeas],
      decodeTableWord 40 r.value.toNat = some i ∧
      stateOf (step (State.reset.withFetchWord 40 r.value.toNat)) = after i State.reset := by decide

/-! The CRC generator. -/

/-- L2-CRC-7: from `CRC_H = 12, CRC_L = 34`. -/
theorem test_crcInit_seeds :
    (after .crcInit { State.reset with crcH := 0x12#8, crcL := 0x34#8 }).crcResult = 0xFFFF#16 := by decide

/-- L2-CRC-9, second row: from `7E A8`, byte 03 gives `68 21`. -/
theorem test_crcFeed_carries_on :
    (after (.crcFeed 0x03#8) { State.reset with crcH := 0x7E#8, crcL := 0xA8#8 }).crcResult = 0x6821#16 := by decide

/-- L2-CRC-2 and L2-CRC-3: "123456789" and "ABCDEF". -/
theorem test_crc_of_check_messages :
    crcOfBytes [0x31, 0x32, 0x33, 0x34, 0x35, 0x36, 0x37, 0x38, 0x39] = ⟨0x37#8, 0x4B#8⟩ ∧
    crcOfBytes [0x41, 0x42, 0x43, 0x44, 0x45, 0x46] = ⟨0x91#8, 0xF6#8⟩ := by decide

/-- L2-CRC-6: a response with its CRC has residue zero, and with byte 8 changed it has not. -/
theorem test_crc_of_responses :
    crcOfBytes measResponse = ⟨0x00#8, 0x00#8⟩ ∧ crcOfBytes (measResponse.set 8 0xAD#8) = ⟨0x0D#8, 0x90#8⟩ := by decide

/-! The frame encoder: L2-ENC-1 to L2-ENC-19. -/

/-- Words and frames of 95 section 2.2, the reads. -/
def readFrames : List (Cmd40 × List Byte) :=
  [(0x3000270001#40, [0x61, 0x03, 0x00, 0x27, 0x00, 0x01, 0x3D, 0xA1]),
   (0x3000280006#40, [0x61, 0x03, 0x00, 0x28, 0x00, 0x06, 0x4C, 0x60]),
   (0x3000000000#40, [0x61, 0x03, 0x00, 0x00, 0x00, 0x00, 0x4C, 0x6A]),
   (0x30FFFFFFFF#40, [0x61, 0x03, 0xFF, 0xFF, 0xFF, 0xFF, 0x4D, 0xFE])]

/-- Words and frames of 95 section 2.2, the writes. -/
def writeFrames : List (Cmd40 × List Byte) :=
  [(0x4000360000#40, [0x61, 0x06, 0x00, 0x36, 0x00, 0x00, 0x60, 0x64]),
   (0x40003603F5#40, [0x61, 0x06, 0x00, 0x36, 0x03, 0xF5, 0xA0, 0xD3]),
   (0x4000370001#40, [0x61, 0x06, 0x00, 0x37, 0x00, 0x01, 0xF0, 0x64]),
   (0x4000250002#40, [0x61, 0x06, 0x00, 0x25, 0x00, 0x02, 0x10, 0x60]),
   (0x4000250708#40, [0x61, 0x06, 0x00, 0x25, 0x07, 0x08, 0x92, 0x57]),
   (0x4000380064#40, [0x61, 0x06, 0x00, 0x38, 0x00, 0x64, 0x00, 0x4C]),
   (0x40003A0001#40, [0x61, 0x06, 0x00, 0x3A, 0x00, 0x01, 0x61, 0xA7]),
   (0x4000390190#40, [0x61, 0x06, 0x00, 0x39, 0x01, 0x90, 0x51, 0x9B]),
   (0x40003907D0#40, [0x61, 0x06, 0x00, 0x39, 0x07, 0xD0, 0x53, 0xCB]),
   (0x40003B0096#40, [0x61, 0x06, 0x00, 0x3B, 0x00, 0x96, 0x71, 0xC9]),
   (0x4000000000#40, [0x61, 0x06, 0x00, 0x00, 0x00, 0x00, 0x80, 0x6A]),
   (0x40FFFFFFFF#40, [0x61, 0x06, 0xFF, 0xFF, 0xFF, 0xFF, 0x81, 0xFE])]

theorem test_buildRd_frames :
    ∀ v ∈ readFrames, (stateOf (issueWord v.1 State.reset)).tx.toList = v.2 := by decide

theorem test_buildWr_frames :
    ∀ v ∈ writeFrames, (stateOf (issueWord v.1 State.reset)).tx.toList = v.2 := by decide

/-- L2-HAZ-1: the feed after a BUILD carries on from the frame's CRC. -/
theorem test_build_leaves_frame_crc :
    (after (.crcFeed 0x32#8) (after (.buildRd 0x0027#16 0x0001#16) State.reset)).crcResult = 0xE104#16 := by decide

/-! The receive buffer. -/

/-- L2-RX-7 and L2-RX-6: READY, INCOMPLETE and ILLEGAL stay, RXOVF goes. -/
theorem test_rxClear_clears_rxovf_only :
    after .rxClear { holding [0x61#8] with ready := true, status := 0x07#8 } =
      { State.reset with ready := true, status := 0x05#8 } := by decide

/-- L2-RX-3: the last free place. -/
theorem test_rxPush_fills_last_place :
    after (.rxPush 0x55#8) (holding (List.replicate 31 0x00#8)) = holding (List.replicate 31 0x00#8 ++ [0x55#8]) := by decide

/-- L2-RX-4: the full buffer. -/
theorem test_rxPush_overflows :
    after (.rxPush 0x55#8) (holding (List.replicate 32 0x00#8)) =
      { holding (List.replicate 32 0x00#8) with status := 0x02#8 } := by decide

/-! The response decoder. -/

/-- L2-RDY-1, -2, -3, -6, -7, -8, -9. -/
theorem test_decReady_vectors :
    ([[], [0x61, 0x03, 0x02, 0x00], [0x61, 0x03, 0x02, 0x00, 0x01], [0x61, 0x03, 0x02, 0x00, 0x02],
      [0x61, 0x03, 0x02, 0x00, 0x81], [0x61, 0x03, 0x02, 0x00, 0xFF], [0x61, 0x03, 0x02, 0x01, 0x01]].map
      fun bytes => (after .decReady { holding bytes with ready := true }).ready) =
      [false, false, true, false, false, false, true] := by decide

/-- L2-MEAS-1 and L2-MEAS-2: 17 bytes and the first 15 of them. -/
theorem test_decMeas_full :
    ∀ n ∈ [15, 17], after .decMeas { holding (measResponse.take n) with status := 0x01#8 } =
      { holding (measResponse.take n) with
        measCo2 := 0x0200#16, measTemp := 0x41AC0000#32, measHum := 0x42340000#32 } := by decide

/-- L2-MEAS-3: 14 bytes. -/
theorem test_decMeas_short :
    after .decMeas (holding (measResponse.take 14)) = { holding (measResponse.take 14) with status := 0x01#8 } := by decide

/-! Reset and the assembler. -/

/-- L2-RST-2: `rst` and a command in the same step. -/
theorem test_reset_drops_command :
    stateOf (step { driving [⟨true, true, 0x3000270001#40⟩] with status := 0x04#8 }) = State.reset := by decide

theorem test_assemble_core_line :
    assembleLine "  BUILD_WR 0x0036, 1013 ; START_CONT 1013".toList = some [0x40003603F5#40] := by decide

theorem test_assemble_pseudo_line : assembleLine "REQ_MEAS".toList = some [0x3000280006#40] := by decide

theorem test_assemble_raw_and_rejected :
    assembleLine ".word40 0x1100000000".toList = some [0x1100000000#40] ∧ assembleLine "RX_PUSH 256".toList = none ∧
    assembleLine "; only a comment".toList = some [] := by decide

/-! Witnesses: the hypotheses of each statement that has some are met, clause by clause. -/

theorem witness_EncodeOfDecodeIsTheWord : decode 0x60000000FF#40 = .ok (.rxPush 0xFF#8) := by decide

theorem witness_ReservedOpcodeRaisesIllegalOnly :
    (0x0FFFFFFFFF#40).extractLsb' 36 4 = 0x0#4 ∧ 0x9#4 ≤ (0x9000000000#40).extractLsb' 36 4 ∧
    0x9#4 ≤ (0xF000000000#40).extractLsb' 36 4 ∧
    (driving [wordSample 0x9000000000#40]).inputs = wordSample 0x9000000000#40 :: [] := by decide

/-- L2-DEC-10, L2-DEC-13, L2-DEC-7, L2-DEC-8: one word for each reserved field, at opcodes 3, 8, 1 and 2. -/
theorem witness_NonzeroReservedFieldRaisesIllegalOnly :
    ((0x3100270001#40).extractLsb' 36 4 = 0x3#4 ∧ (0x3100270001#40).extractLsb' 32 4 ≠ 0#4) ∧
    ((0x80000F0000#40).extractLsb' 36 4 = 0x8#4 ∧ (0x80000F0000#40).extractLsb' 16 16 ≠ 0#16) ∧
    ((0x1000000001#40).extractLsb' 36 4 = 0x1#4 ∧ (0x1000000001#40).extractLsb' 0 16 ≠ 0#16) ∧
    ((0x2000000100#40).extractLsb' 36 4 = 0x2#4 ∧ (0x2000000100#40).extractLsb' 8 8 ≠ 0#8) ∧
    (driving [wordSample 0x2000000100#40]).inputs = wordSample 0x2000000100#40 :: [] := by decide

theorem witness_StepRunsTheDecodedCommand :
    (driving [wordSample 0x3000270001#40, ⟨true, false, 0⟩]).inputs =
      wordSample 0x3000270001#40 :: [⟨true, false, 0⟩] ∧
    decode 0x3000270001#40 = .ok (.buildRd 0x0027#16 0x0001#16) := by decide

theorem witness_StepWithoutCommandHoldsState :
    State.reset.inputs = [] ∧
    (driving [⟨false, false, 0x5000000000#40⟩]).inputs = ⟨false, false, 0x5000000000#40⟩ :: [] := by decide

theorem witness_ResetInputWinsOverCommand :
    (driving [⟨true, true, 0x3000270001#40⟩]).inputs = ⟨true, true, 0x3000270001#40⟩ :: [] := by decide

theorem witness_StepTakesOneSampleInOrder :
    ∃ t, step (driving [wordSample 0x5000000000#40, wordSample 0x1000000000#40]) = .next t := ⟨_, rfl⟩

/-- The full buffer, from which a push could break the bound. -/
theorem witness_StepKeepsStateWellFormed :
    (flagged 0x00#8 (List.replicate 32 0x00#8) 0x6000000055#40).WellFormed ∧
    ∃ t, step (flagged 0x00#8 (List.replicate 32 0x00#8) 0x6000000055#40) = .next t := ⟨by decide, _, rfl⟩

/-- Each flag set, and the step that clears it: DEC_MEAS at 15 bytes, RX_CLEAR, `rst`. -/
theorem witness_FlagsAreClearedOnlyAsRuled :
    ((flagged 0x01#8 (measResponse.take 15) 0x8000000000#40).flag .incomplete = true ∧
      (stateOf (step (flagged 0x01#8 (measResponse.take 15) 0x8000000000#40))).flag .incomplete = false) ∧
    ((flagged 0x02#8 [] 0x5000000000#40).flag .rxovf = true ∧
      (stateOf (step (flagged 0x02#8 [] 0x5000000000#40))).flag .rxovf = false) ∧
    (({ driving [⟨true, false, 0⟩] with status := 0x04#8 } : State).flag .illegal = true ∧
      (stateOf (step { driving [⟨true, false, 0⟩] with status := 0x04#8 })).flag .illegal = false) := by decide

/-- Each flag clear, and the step that sets it: DEC_MEAS at 14 bytes, RX_PUSH at capacity, an undefined word. -/
theorem witness_FlagsAreSetOnlyAsRuled :
    (stateOf (step (flagged 0x00#8 (measResponse.take 14) 0x8000000000#40))).flag .incomplete = true ∧
    (stateOf (step (flagged 0x00#8 (List.replicate 32 0x00#8) 0x6000000055#40))).flag .rxovf = true ∧
    (stateOf (step (flagged 0x00#8 [] 0x0000000000#40))).flag .illegal = true := by decide

/-- A flag clear before a step and set after it, and a step that executes an undefined word. -/
theorem witness_StepRaisesAtMostOneFlag :
    (flagged 0x00#8 [] 0x80000F0000#40).flag .illegal = false ∧
    (stateOf (step (flagged 0x00#8 [] 0x80000F0000#40))).flag .illegal = true ∧
    RanUndefined (flagged 0x00#8 [] 0x80000F0000#40) := by
  refine ⟨by decide, by decide, 0x80000F0000#40, .nonzeroA, ⟨_, _, rfl, rfl, rfl, rfl⟩, by decide⟩

/-- A READY that DEC_READY changes; an INCOMPLETE that DEC_MEAS changes; RXOVF set and cleared; an undefined word;
and two states that differ in STATUS and READY only. -/
theorem witness_FlagsHaveTheirWritersAndNoReader :
    (after .decReady (holding [0x61, 0x03, 0x02, 0x00, 0x01])).ready = true ∧
    (after .decMeas (holding [])).flag .incomplete = true ∧
    (after (.rxPush 0x55#8) (holding (List.replicate 32 0x00#8))).flag .rxovf = true ∧
    (after .rxClear { State.reset with status := 0x02#8 }).flag .rxovf = false ∧
    decode 0x0000000000#40 = .error .reservedOpcode ∧
    OnlyWrites [.status, .ready] State.reset { State.reset with status := 0x07#8, ready := true } := by
  refine ⟨by decide, by decide, by decide, by decide, by decide, ?_⟩
  intro r hr
  cases r <;> simp_all [Reg.Same]

/-- No `rst`, and a step that changes each register in turn. -/
theorem witness_RegistersHaveOnlyTheirWriters :
    ¬ WasReset (driving [wordSample 0x3000270001#40]) ∧
    (stateOf (step (driving [wordSample 0x3000270001#40]))).tx ≠ State.reset.tx ∧
    (stateOf (step (driving [wordSample 0x2000000061#40]))).crcH ≠ State.reset.crcH ∧
    (stateOf (step (driving [wordSample 0x6000000061#40]))).rx ≠ State.reset.rx ∧
    (stateOf (step (flagged 0x00#8 [0x61, 0x03, 0x02, 0x00, 0x01] 0x7000000000#40))).ready ≠ State.reset.ready ∧
    (stateOf (step (flagged 0x00#8 (measResponse.take 15) 0x8000000000#40))).measCo2 ≠ State.reset.measCo2 := by
  refine ⟨?_, by decide, by decide, by decide, by decide, by decide⟩
  simp [WasReset, driving, wordSample]

theorem witness_IllegalClearMeansEveryWordWasDefined :
    ∃ t, runSteps 1 (driving [wordSample 0x5000000000#40]) = .next t ∧ State.reset.flag .illegal = false ∧
      ∀ p ∈ (driving [wordSample 0x5000000000#40]).inputs.take 1, p.rst = false := ⟨_, rfl, by decide, by decide⟩

theorem witness_CrcInitSeedsTheGenerator :
    (0x1F00000000#40).extractLsb' 36 4 = 0x1#4 ∧ (0x1F00000000#40 : Cmd40) ≠ 0x1000000000#40 := by decide

theorem witness_CrcFeedStepsTheGenerator :
    State.reset.crcH = 0xFF#8 ∧ State.reset.crcL = 0xFF#8 ∧
    exec (.crcFeed 0x61#8) State.reset = .next (after (.crcFeed 0x61#8) State.reset) := ⟨rfl, rfl, rfl⟩

theorem witness_MessageCrcIsTableFreeModbusCrc :
    (driving (commandSamples (Pseudo.crcMsg [0x31#8]).expand)).inputs =
      commandSamples (Pseudo.crcMsg [0x31#8]).expand ++ [] := by decide

/-- The empty message, whose CRC is the seed. -/
theorem witness_MessageWithItsCrcHasResidueZero :
    ∃ t t', runSteps 1 (driving (commandSamples (Pseudo.crcMsg []).expand)) = .next t ∧
      runSteps 3 (driving (commandSamples (Pseudo.crcMsg ([] ++ [t.crcH, t.crcL])).expand)) = .next t' :=
  ⟨_, _, rfl, rfl⟩

theorem witness_BuildExamples :
    exec (.buildRd 0xFFFF#16 0xFFFF#16) State.reset = .next (after (.buildRd 0xFFFF#16 0xFFFF#16) State.reset) ∧
    exec (.buildWr 0xFFFF#16 0xFFFF#16) State.reset = .next (after (.buildWr 0xFFFF#16 0xFFFF#16) State.reset) :=
  ⟨rfl, rfl⟩

/-- Both function codes, for the statements about either BUILD command. -/
theorem witness_RequestFrameCarriesItsModbusCrc :
    ∀ i ∈ [Instr.buildRd 0x0027#16 0x0001#16, .buildWr 0x0036#16 0x0000#16],
      ∃ t, exec i State.reset = .next t := by
  intro i _
  cases i <;> exact ⟨_, rfl⟩

theorem witness_BuiltFrameChecksToResidueZero :
    ∃ s t, exec (.buildRd 0x0027#16 0x0001#16) s = .next t ∧
      t.inputs = commandSamples (Pseudo.crcMsg t.tx.toList).expand ++ [] :=
  ⟨driving (commandSamples (Pseudo.crcMsg (requestFrame Config.fcRead 0x0027#16 0x0001#16).toList).expand), _, rfl,
    by simp [driving]⟩

/-- One byte below the capacity and at it. -/
theorem witness_RxPushAppendsOrOverflows :
    (holding (List.replicate 31 0x00#8)).rx.length < (holding (List.replicate 31 0x00#8)).rxCap ∧
    (holding (List.replicate 32 0x00#8)).rxCap ≤ (holding (List.replicate 32 0x00#8)).rx.length := by decide

/-- No byte, exactly as many as the capacity, and one more. -/
theorem witness_ReceivedBytesFillTheBufferUpToCapacity :
    (∀ n ∈ [0, 32, 33], (driving (commandSamples (Pseudo.recv (List.replicate n 0x00#8)).expand)).inputs =
      commandSamples (Pseudo.recv (List.replicate n 0x00#8)).expand ++ []) ∧
    (driving []).rxCap = 32 := by simp [driving, State.reset, Config.rxCapDefault]

/-- 14 bytes and 15 bytes. -/
theorem witness_DecMeasDecodesOrReportsIncomplete :
    (holding (measResponse.take 14)).rx.length < 15 ∧
    (holding (measResponse.take 15)).rx = [0x61, 0x03, 0x0C, 0x00, 0x00, 0x02, 0x00, 0x41, 0xAC, 0x00, 0x00, 0x42, 0x34, 0x00, 0x00] ++ [] := by
  decide

theorem witness_Co2IsTheLowHalfOfItsBlock :
    15 ≤ (holding (measResponse.take 15)).rx.length ∧ ∃ t, exec .decMeas (holding (measResponse.take 15)) = .next t :=
  ⟨by decide, _, rfl⟩

theorem witness_EncodedReadingDecodesToItself :
    ([0x61, 0x03, 0x0C] : List Byte).length = 3 ∧
    (holding measResponse).rx = [0x61, 0x03, 0x0C] ++
      [(0x0000#16).extractLsb' 8 8, (0x0000#16).extractLsb' 0 8, (0x0200#16).extractLsb' 8 8, (0x0200#16).extractLsb' 0 8,
       (0x41AC0000#32).extractLsb' 24 8, (0x41AC0000#32).extractLsb' 16 8, (0x41AC0000#32).extractLsb' 8 8,
       (0x41AC0000#32).extractLsb' 0 8, (0x42340000#32).extractLsb' 24 8, (0x42340000#32).extractLsb' 16 8,
       (0x42340000#32).extractLsb' 8 8, (0x42340000#32).extractLsb' 0 8] ++ [0xAE, 0xD2] := by decide

/-- Two responses with different headers and lengths that agree at the bytes 3 to 14. -/
theorem witness_DecodersIgnoreHeaderAndTrailer :
    15 ≤ (holding measResponse).rx.length ∧ 15 ≤ (holding ([0xFF, 0xFF, 0xFF] ++ (measResponse.take 15).drop 3)).rx.length ∧
    (∀ k, 3 ≤ k → k ≤ 14 →
      (holding measResponse).rx[k]? = (holding ([0xFF, 0xFF, 0xFF] ++ (measResponse.take 15).drop 3)).rx[k]?) ∧
    (holding measResponse).rx[4]? = (holding ([0xFF, 0xFF, 0xFF] ++ (measResponse.take 15).drop 3)).rx[4]? := by
  refine ⟨by decide, by decide, ?_, by decide⟩
  intro k h1 h2
  interval_cases k <;> rfl

theorem witness_DecodersKeepTheResponse :
    (∃ t, exec .decMeas (holding measResponse) = .next t) ∧ (holding measResponse).rx ≠ [] ∧
    exec .rxClear (holding measResponse) = .next (after .rxClear (holding measResponse)) ∧
    (after .rxClear (holding measResponse)).rx = [] := ⟨⟨_, rfl⟩, by decide, rfl, by decide⟩

/-- The last byte held, the first index past them, the last output `RXi`, and a well-formed state. -/
theorem witness_OutputsShowTheRegisters :
    16 < (holding measResponse).rx.length ∧ (holding measResponse).rx.length ≤ 17 ∧
    31 < (holding measResponse).rxCap ∧ (holding measResponse).WellFormed := by
  decide

/-- R51: ceil(log2(RX_CAP + 1)) at 17, at both sides of a power of two, and at the default. -/
theorem test_rxLenWidth : [17, 30, 31, 32].map rxLenWidth = [5, 5, 5, 6] := by decide

end Sys2Proof.Tests
end

section
/-! A step by the equations of its layers: what the next sample is fixes which of them answers, and each answers
a next state (R7, R51, R83, R200). -/

namespace Sys2Proof.Machine

/-! The equations of a step, one for each case. -/

/-- A defined word runs its command (R83). -/
theorem issueWord_of_decode_ok {c : Cmd40} {i : Instr} (h : decode c = .ok i) (s : State) :
    issueWord c s = exec i s := by
  unfold issueWord
  rw [h]

/-- An undefined word only raises ILLEGAL (R83). -/
theorem issueWord_of_decode_error {c : Cmd40} {e : Undefined} (h : decode c = .error e) (s : State) :
    issueWord c s = .next (s.raiseFlag .illegal) := by
  unfold issueWord
  rw [h]

/-- `rst` resets, whatever else the sample holds (R232). -/
theorem samplePorts_of_rst {p : PortSample} (hr : p.rst = true) (s : State) :
    samplePorts p s = .next s.toReset := by
  simp [samplePorts, hr]

/-- Without `cmd_valid` the state is held (R51). -/
theorem samplePorts_of_not_cmdValid {p : PortSample} (hr : p.rst = false) (hv : p.cmdValid = false) (s : State) :
    samplePorts p s = .next s := by
  simp [samplePorts, hr, hv]

/-- With `cmd_valid` and no `rst` the word of the sample is issued (R51). -/
theorem samplePorts_of_cmdValid {p : PortSample} (hr : p.rst = false) (hv : p.cmdValid = true) (s : State) :
    samplePorts p s = issueWord p.cmd s := by
  simp [samplePorts, hr, hv]

/-- While the host drives nothing the state is held (log entry 1). -/
theorem step_of_inputs_nil {s : State} (h : s.inputs = []) : step s = .next s := by
  unfold step takeInput
  rw [h]

/-- Otherwise the next sample acts on the state with that sample taken (log entry 1). -/
theorem step_of_inputs_cons {s : State} {p : PortSample} {rest : List PortSample} (h : s.inputs = p :: rest) :
    step s = samplePorts p (s.setInputs rest) := by
  unfold step takeInput
  rw [h]

/-! Each layer answers a next state. -/

/-- Every command completes: an error it meets only sets a flag (R200). -/
theorem exec_answersNext (i : Instr) (s : State) : ∃ t, exec i s = .next t := by
  cases i with
  | crcInit => exact ⟨_, exec_crcInit s⟩
  | crcFeed b => exact ⟨_, exec_crcFeed b s⟩
  | buildRd a d => exact ⟨_, exec_buildRd a d s⟩
  | buildWr a d => exact ⟨_, exec_buildWr a d s⟩
  | rxClear => exact ⟨_, exec_rxClear s⟩
  | rxPush b => exact ⟨_, exec_rxPush b s⟩
  | decReady => exact ⟨_, exec_decReady s⟩
  | decMeas => exact ⟨_, exec_decMeas s⟩

/-- Every word is taken, an undefined one too (R83). -/
theorem issueWord_answersNext (c : Cmd40) (s : State) : ∃ t, issueWord c s = .next t := by
  cases hd : decode c with
  | ok i =>
    rw [issueWord_of_decode_ok hd]
    exact exec_answersNext i s
  | error e => exact ⟨_, issueWord_of_decode_error hd s⟩

/-- Every sample of the ports is taken (R51, R232). -/
theorem samplePorts_answersNext (p : PortSample) (s : State) : ∃ t, samplePorts p s = .next t := by
  cases hr : p.rst with
  | true => exact ⟨_, samplePorts_of_rst hr s⟩
  | false =>
    cases hv : p.cmdValid with
    | false => exact ⟨_, samplePorts_of_not_cmdValid hr hv s⟩
    | true =>
      rw [samplePorts_of_cmdValid hr hv]
      exact issueWord_answersNext p.cmd s

/-- Settles O12, by the samples still driven: none, and the state is held, or a next one, which is always taken. -/
theorem stepAlwaysAnswersNext : Obligations.StepAlwaysAnswersNext := by
  intro s
  cases hi : s.inputs with
  | nil => exact ⟨s, step_of_inputs_nil hi⟩
  | cons p rest =>
    rw [step_of_inputs_cons hi]
    exact samplePorts_answersNext p (s.setInputs rest)

end Sys2Proof.Machine
end

section
/-! The step by what it ran: a reset, no command, one command, or an undefined word, each excluding the others
(R7, R51, R83, R232). -/

namespace Sys2Proof.Machine

/-- All that a step can do, with what it ran and what it did not; each acts on the state with the sample taken. -/
theorem step_cases_ran {s t : State} (h : step s = .next t) :
    (WasReset s ∧ (∀ i, ¬ Ran s i) ∧ ¬ RanUndefined s ∧ t = (s.setInputs s.inputs.tail).toReset) ∨
    (¬ WasReset s ∧ (∀ i, ¬ Ran s i) ∧ ¬ RanUndefined s ∧ t = s.setInputs s.inputs.tail) ∨
    (¬ WasReset s ∧ ¬ RanUndefined s ∧
      ∃ i, (∀ j, Ran s j ↔ i = j) ∧ exec i (s.setInputs s.inputs.tail) = .next t) ∨
    (¬ WasReset s ∧ (∀ i, ¬ Ran s i) ∧ RanUndefined s ∧ t = (s.setInputs s.inputs.tail).raiseFlag .illegal) := by
  rcases step_cases h with ⟨hi, rfl⟩ | ⟨p, rest, hi, hp⟩
  · obtain ⟨hreset, hran, hundef⟩ := nothing_ran hi
    have hheld : t = t.setInputs t.inputs.tail := by rw [hi, List.tail_nil, ← hi]; rfl
    exact .inr (.inl ⟨hreset, hran, hundef, hheld⟩)
  · rw [hi, List.tail_cons]
    rcases samplePorts_cases hp with ⟨hr, ht⟩ | ⟨hr, hv, ht⟩ | ⟨hr, hv, i, hd, ht⟩ | ⟨hr, hv, e, hd, ht⟩
    · exact .inl (by simp [wasReset_iff hi, ran_iff hi, ranUndefined_iff hi, hr, ht])
    · exact .inr (.inl (by simp [wasReset_iff hi, ran_iff hi, ranUndefined_iff hi, hr, hv, ht]))
    · refine .inr (.inr (.inl ⟨?_, ?_, i, ?_, ht⟩)) <;>
        simp [wasReset_iff hi, ran_iff hi, ranUndefined_iff hi, hr, hv, hd]
    · exact .inr (.inr (.inr (by simp [wasReset_iff hi, ran_iff hi, ranUndefined_iff hi, hr, hv, hd, ht])))

end Sys2Proof.Machine
end

section
/-! The invariant of the state (R5, R26, R31): every operation keeps it, so every step does. -/

namespace Sys2Proof.Machine

/-! An update of a register that the invariant does not read keeps it. -/

theorem State.WellFormed.setCrc {s : State} (h : s.WellFormed) (c : CrcPair) : (s.setCrc c).WellFormed := h

theorem State.WellFormed.setTx {s : State} (h : s.WellFormed) (f : TxFrame) : (s.setTx f).WellFormed := h

theorem State.WellFormed.setReady {s : State} (h : s.WellFormed) (v : Bool) : (s.setReady v).WellFormed := h

theorem State.WellFormed.setReading {s : State} (h : s.WellFormed) (r : Reading) : (s.setReading r).WellFormed := h

theorem State.WellFormed.setInputs {s : State} (h : s.WellFormed) (ins : List PortSample) :
    (s.setInputs ins).WellFormed := h

/-! The registers it reads: the receive sequence, which must fit, and STATUS. -/

theorem State.WellFormed.setRx {s : State} (h : s.WellFormed) {bytes : List Byte} (hb : bytes.length ≤ s.rxCap) :
    (s.setRx bytes).WellFormed := by
  obtain ⟨hcap, -, hstatus⟩ := h
  exact ⟨hcap, hb, hstatus⟩

theorem State.WellFormed.raiseFlag {s : State} (h : s.WellFormed) (f : Flag) : (s.raiseFlag f).WellFormed := by
  obtain ⟨hcap, hlen, hstatus⟩ := h
  exact ⟨hcap, hlen, (s.reserved_raiseFlag f).trans hstatus⟩

theorem State.WellFormed.clearFlag {s : State} (h : s.WellFormed) (f : Flag) : (s.clearFlag f).WellFormed := by
  obtain ⟨hcap, hlen, hstatus⟩ := h
  exact ⟨hcap, hlen, s.reserved_clearFlag f hstatus⟩

/-- Reset empties the receive sequence and STATUS and leaves `RX_CAP` (R231, log entry 4). -/
theorem State.WellFormed.toReset {s : State} (h : s.WellFormed) : s.toReset.WellFormed := by
  obtain ⟨hcap, -, -⟩ := h
  exact ⟨hcap, Nat.zero_le _, by simp⟩

/-- A push that finds room keeps the length within `RX_CAP`, and one that finds none appends nothing (R152). -/
theorem exec_keeps_wellFormed {i : Instr} {s t : State} (hs : s.WellFormed) (h : exec i s = .next t) :
    t.WellFormed := by
  rcases exec_cases h with ⟨-, rfl⟩ | ⟨b, -, rfl⟩ | ⟨a, d, -, rfl⟩ | ⟨a, d, -, rfl⟩ | ⟨-, rfl⟩ | ⟨b, -, hroom, rfl⟩ |
    ⟨b, -, -, rfl⟩ | ⟨-, rfl⟩ | ⟨-, -, rfl⟩ | ⟨-, -, rfl⟩
  · exact hs.setCrc _
  · exact hs.setCrc _
  · exact (hs.setTx _).setCrc _
  · exact (hs.setTx _).setCrc _
  · exact (hs.setRx (Nat.zero_le _)).clearFlag _
  · have hlen : (s.rx ++ [b]).length ≤ s.rxCap := by simpa using (show s.rx.length < s.rxCap from hroom)
    exact hs.setRx hlen
  · exact hs.raiseFlag _
  · exact hs.setReady _
  · exact hs.raiseFlag _
  · exact (hs.setReading _).clearFlag _

/-- Settles O14, by what the step did: each of reset, a command and the raise of ILLEGAL keeps the invariant, from
the state with the sample taken. -/
theorem stepKeepsStateWellFormed : Obligations.StepKeepsStateWellFormed := by
  intro s t hs h
  have hu := hs.setInputs s.inputs.tail
  rcases step_cases_ran h with ⟨-, -, -, rfl⟩ | ⟨-, -, -, rfl⟩ | ⟨-, -, i, -, ht⟩ | ⟨-, -, -, rfl⟩
  · exact hu.toReset
  · exact hu
  · exact exec_keeps_wellFormed hu ht
  · exact hu.raiseFlag _

end Sys2Proof.Machine
end

section
/-! The frame of a command and of a step: which registers it can change (R22, R23, R25 to R32). -/

namespace Sys2Proof.Machine

/-- The registers a command writes in a state: RX_PUSH and DEC_MEAS choose by `RXLEN` (R152, R154). -/
def writtenBy (i : Instr) (s : State) : List Reg :=
  match i with
  | .crcInit     => [.crcH, .crcL]
  | .crcFeed _   => [.crcH, .crcL]
  | .buildRd _ _ => [.tx, .crcH, .crcL]
  | .buildWr _ _ => [.tx, .crcH, .crcL]
  | .rxClear     => [.rx, .status]
  | .rxPush _    => if s.rxLen < s.rxCap then [.rx] else [.status]
  | .decReady    => [.ready]
  | .decMeas     => if s.rxLen < 15 then [.status] else [.measCo2, .measTemp, .measHum, .status]

section

variable (s : State)

@[simp] theorem writtenBy_crcInit : writtenBy .crcInit s = [.crcH, .crcL] := rfl
@[simp] theorem writtenBy_crcFeed (b : Byte) : writtenBy (.crcFeed b) s = [.crcH, .crcL] := rfl
@[simp] theorem writtenBy_buildRd (a d : Word16) : writtenBy (.buildRd a d) s = [.tx, .crcH, .crcL] := rfl
@[simp] theorem writtenBy_buildWr (a d : Word16) : writtenBy (.buildWr a d) s = [.tx, .crcH, .crcL] := rfl
@[simp] theorem writtenBy_rxClear : writtenBy .rxClear s = [.rx, .status] := rfl
@[simp] theorem writtenBy_decReady : writtenBy .decReady s = [.ready] := rfl

@[simp] theorem mem_writtenBy_rxPush (r : Reg) (b : Byte) :
    r ∈ writtenBy (.rxPush b) s ↔ (r = .rx ∧ s.rxLen < s.rxCap) ∨ (r = .status ∧ s.rxCap ≤ s.rxLen) := by
  rw [writtenBy]
  split
  next hroom => simp [hroom, hroom.not_ge]
  next hfull => simp [hfull, Nat.le_of_not_lt hfull]

@[simp] theorem mem_writtenBy_decMeas (r : Reg) :
    r ∈ writtenBy .decMeas s ↔ r = .status ∨ ((r = .measCo2 ∨ r = .measTemp ∨ r = .measHum) ∧ 15 ≤ s.rxLen) := by
  rw [writtenBy]
  split
  next hshort => simp [hshort.not_ge]
  next hlong => simp [Nat.le_of_not_lt hlong, or_comm, or_left_comm]

/-- Taking a sample changes nothing of what a command writes. -/
theorem writtenBy_setInputs (i : Instr) (ins : List PortSample) : writtenBy i (s.setInputs ins) = writtenBy i s := by
  cases i <;> rfl

end

/-- A frame, register by register. -/
theorem onlyWrites_iff {l : List Reg} {s t : State} :
    OnlyWrites l s t ↔
      (.crcH ∉ l → t.crcH = s.crcH) ∧ (.crcL ∉ l → t.crcL = s.crcL) ∧ (.tx ∉ l → t.tx = s.tx) ∧
      (.rx ∉ l → t.rx = s.rx) ∧ (.ready ∉ l → t.ready = s.ready) ∧ (.measCo2 ∉ l → t.measCo2 = s.measCo2) ∧
      (.measTemp ∉ l → t.measTemp = s.measTemp) ∧ (.measHum ∉ l → t.measHum = s.measHum) ∧
      (.status ∉ l → t.status = s.status) ∧ (.rxCap ∉ l → t.rxCap = s.rxCap) ∧
      (.inputs ∉ l → t.inputs = s.inputs) := by
  constructor
  · intro h
    exact ⟨h .crcH, h .crcL, h .tx, h .rx, h .ready, h .measCo2, h .measTemp, h .measHum, h .status, h .rxCap,
      h .inputs⟩
  · rintro ⟨_, _, _, _, _, _, _, _, _, _, _⟩ r
    cases r <;> assumption

/-- A command changes no register but those it writes. -/
theorem exec_onlyWrites {i : Instr} {s t : State} (h : exec i s = .next t) : OnlyWrites (writtenBy i s) s t := by
  rcases exec_cases h with ⟨rfl, rfl⟩ | ⟨b, rfl, rfl⟩ | ⟨a, d, rfl, rfl⟩ | ⟨a, d, rfl, rfl⟩ | ⟨rfl, rfl⟩ |
    ⟨b, rfl, hroom, rfl⟩ | ⟨b, rfl, hfull, rfl⟩ | ⟨rfl, rfl⟩ | ⟨rfl, -, rfl⟩ | ⟨rfl, hlong, rfl⟩
  · simp [onlyWrites_iff]
  · simp [onlyWrites_iff]
  · simp [onlyWrites_iff]
  · simp [onlyWrites_iff]
  · simp [onlyWrites_iff]
  · simp [onlyWrites_iff, hroom]
  · simp [onlyWrites_iff, hfull]
  · simp [onlyWrites_iff]
  · simp [onlyWrites_iff]
  · simp [onlyWrites_iff, hlong]

/-- A register that a command changed is one it writes. -/
theorem mem_writtenBy_of_changed {i : Instr} {s t : State} {r : Reg} (h : exec i s = .next t) (hr : ¬ r.Same s t) :
    r ∈ writtenBy i s := by
  by_contra hnot
  exact hr (exec_onlyWrites h r hnot)

/-! Each register's writers. -/

theorem crcH_mem_writtenBy (i : Instr) (s : State) :
    .crcH ∈ writtenBy i s ↔
      i = .crcInit ∨ (∃ b, i = .crcFeed b) ∨ (∃ a d, i = .buildRd a d) ∨ ∃ a d, i = .buildWr a d := by
  cases i <;> simp

/-- The two running bytes are always written together (R22, R23). -/
theorem crcL_mem_writtenBy (i : Instr) (s : State) : .crcL ∈ writtenBy i s ↔ .crcH ∈ writtenBy i s := by
  cases i <;> simp

theorem tx_mem_writtenBy (i : Instr) (s : State) :
    .tx ∈ writtenBy i s ↔ (∃ a d, i = .buildRd a d) ∨ ∃ a d, i = .buildWr a d := by
  cases i <;> simp

theorem rx_mem_writtenBy (i : Instr) (s : State) :
    .rx ∈ writtenBy i s ↔ i = .rxClear ∨ (∃ b, i = .rxPush b) ∧ s.rxLen < s.rxCap := by
  cases i <;> simp

theorem ready_mem_writtenBy (i : Instr) (s : State) : .ready ∈ writtenBy i s ↔ i = .decReady := by
  cases i <;> simp

/-- The three registers of the Reading are written together, from a response that is long enough (R59, R154). -/
theorem reading_mem_writtenBy (i : Instr) (s : State) {r : Reg} (hr : r = .measCo2 ∨ r = .measTemp ∨ r = .measHum) :
    r ∈ writtenBy i s ↔ i = .decMeas ∧ 15 ≤ s.rxLen := by
  rcases hr with rfl | rfl | rfl
  · cases i <;> simp
  · cases i <;> simp
  · cases i <;> simp

/-- A register that changed in a step without reset was written by the command the step ran, the host's list and
the flag of an undefined word aside. -/
theorem ran_of_changed {s t : State} {r : Reg} (h : step s = .next t) (hreset : ¬ WasReset s)
    (hinputs : r ≠ .inputs) (hstatus : r ≠ .status) (hr : ¬ r.Same s t) : ∃ i, Ran s i ∧ r ∈ writtenBy i s := by
  rcases step_cases_ran h with ⟨hw, -⟩ | ⟨-, -, -, rfl⟩ | ⟨-, -, i, hran, ht⟩ | ⟨-, -, -, rfl⟩
  · exact absurd hw hreset
  · cases r <;> simp [Reg.Same] at hr hinputs
  · have hchanged : ¬ r.Same (s.setInputs s.inputs.tail) t := by
      cases r with
      | inputs => exact absurd rfl hinputs
      | _ => exact hr
    exact ⟨i, (hran i).2 rfl, writtenBy_setInputs s i _ ▸ mem_writtenBy_of_changed ht hchanged⟩
  · cases r <;> simp [Reg.Same] at hr hinputs hstatus

/-- Settles O20: the register that changed is written by the command the step ran, and each register has the writers
its rule names. -/
theorem registersHaveOnlyTheirWriters : Obligations.RegistersHaveOnlyTheirWriters := by
  intro s t h hreset
  have ran {r : Reg} := ran_of_changed (r := r) h hreset
  refine ⟨fun hcrc => ?_, fun htx => ?_, fun hrx => ?_, fun hready => ?_, fun hmeas => ?_⟩
  · obtain ⟨i, hi, hm⟩ : ∃ i, Ran s i ∧ .crcH ∈ writtenBy i s := by
      rcases hcrc with hc | hc
      · exact ran (r := .crcH) (by decide) (by decide) hc
      · simpa only [crcL_mem_writtenBy] using ran (r := .crcL) (by decide) (by decide) hc
    rcases (crcH_mem_writtenBy i s).1 hm with rfl | ⟨b, rfl⟩ | ⟨a, d, rfl⟩ | ⟨a, d, rfl⟩
    · exact .inl hi
    · exact .inr (.inl ⟨b, hi⟩)
    · exact .inr (.inr (.inl ⟨a, d, hi⟩))
    · exact .inr (.inr (.inr ⟨a, d, hi⟩))
  · obtain ⟨i, hi, hm⟩ := ran (r := .tx) (by decide) (by decide) htx
    rcases (tx_mem_writtenBy i s).1 hm with ⟨a, d, rfl⟩ | ⟨a, d, rfl⟩
    · exact .inl ⟨a, d, hi⟩
    · exact .inr ⟨a, d, hi⟩
  · obtain ⟨i, hi, hm⟩ := ran (r := .rx) (by decide) (by decide) hrx
    rcases (rx_mem_writtenBy i s).1 hm with rfl | ⟨⟨b, rfl⟩, -⟩
    · exact .inl hi
    · exact .inr ⟨b, hi⟩
  · obtain ⟨i, hi, hm⟩ := ran (r := .ready) (by decide) (by decide) hready
    exact (ready_mem_writtenBy i s).1 hm ▸ hi
  · obtain ⟨r, hr, i, hi, hm⟩ :
        ∃ r : Reg, (r = .measCo2 ∨ r = .measTemp ∨ r = .measHum) ∧ ∃ i, Ran s i ∧ r ∈ writtenBy i s := by
      rcases hmeas with hc | hc | hc
      · exact ⟨.measCo2, .inl rfl, ran (by decide) (by decide) hc⟩
      · exact ⟨.measTemp, .inr (.inl rfl), ran (by decide) (by decide) hc⟩
      · exact ⟨.measHum, .inr (.inr rfl), ran (by decide) (by decide) hc⟩
    obtain ⟨rfl, hlen⟩ := (reading_mem_writtenBy i s hr).1 hm
    exact ⟨hi, hlen⟩

end Sys2Proof.Machine
end

section
/-! The flags of STATUS under a command and under a step (R31, R201, R205). -/

namespace Sys2Proof.Machine

/-- All that a command can do to the flags: three commands have an effect on one flag, the rest leave them. -/
theorem exec_flag_cases {i : Instr} {s t : State} (h : exec i s = .next t) :
    (i = .rxClear ∧ ∀ g, t.flag g = (s.clearFlag .rxovf).flag g) ∨
    ((∃ b, i = .rxPush b) ∧ s.rxCap ≤ s.rxLen ∧ ∀ g, t.flag g = (s.raiseFlag .rxovf).flag g) ∨
    (i = .decMeas ∧ s.rxLen < 15 ∧ ∀ g, t.flag g = (s.raiseFlag .incomplete).flag g) ∨
    (i = .decMeas ∧ 15 ≤ s.rxLen ∧ ∀ g, t.flag g = (s.clearFlag .incomplete).flag g) ∨
    (i ≠ .rxClear ∧ ((∃ b, i = .rxPush b) → s.rxLen < s.rxCap) ∧ i ≠ .decMeas ∧ ∀ g, t.flag g = s.flag g) := by
  rcases exec_cases h with ⟨rfl, rfl⟩ | ⟨b, rfl, rfl⟩ | ⟨a, d, rfl, rfl⟩ | ⟨a, d, rfl, rfl⟩ | ⟨rfl, rfl⟩ |
    ⟨b, rfl, hroom, rfl⟩ | ⟨b, rfl, hfull, rfl⟩ | ⟨rfl, rfl⟩ | ⟨rfl, hshort, rfl⟩ | ⟨rfl, hlong, rfl⟩
  · simp
  · simp
  · simp
  · simp
  · exact .inl ⟨rfl, fun _ => rfl⟩
  · simp [hroom]
  · exact .inr (.inl ⟨⟨b, rfl⟩, hfull, fun _ => rfl⟩)
  · simp
  · exact .inr (.inr (.inl ⟨rfl, hshort, fun _ => rfl⟩))
  · exact .inr (.inr (.inr (.inl ⟨rfl, hlong, fun _ => rfl⟩)))

/-- INCOMPLETE after a command: DEC_MEAS writes it, by `RXLEN`, and no other command does (R154). -/
theorem exec_incomplete_iff {i : Instr} {s t : State} (h : exec i s = .next t) :
    t.flag .incomplete = true ↔ (i = .decMeas ∧ s.rxLen < 15) ∨ (s.flag .incomplete = true ∧ i ≠ .decMeas) := by
  rcases exec_flag_cases h with ⟨rfl, hg⟩ | ⟨⟨b, rfl⟩, -, hg⟩ | ⟨rfl, hshort, hg⟩ | ⟨rfl, hlong, hg⟩ | ⟨-, -, hi, hg⟩
  · simp [hg]
  · simp [hg]
  · simp [hg, hshort]
  · simp [hg, hlong]
  · simp [hg, hi]

/-- RXOVF after a command: RX_PUSH into a full buffer sets it and RX_CLEAR clears it (R151, R152). -/
theorem exec_rxovf_iff {i : Instr} {s t : State} (h : exec i s = .next t) :
    t.flag .rxovf = true ↔
      ((∃ b, i = .rxPush b) ∧ s.rxCap ≤ s.rxLen) ∨ (s.flag .rxovf = true ∧ i ≠ .rxClear) := by
  rcases exec_flag_cases h with ⟨rfl, hg⟩ | ⟨⟨b, rfl⟩, hfull, hg⟩ | ⟨rfl, -, hg⟩ | ⟨rfl, -, hg⟩ | ⟨hi, hroom, -, hg⟩
  · simp [hg]
  · simp [hg, hfull]
  · simp [hg]
  · simp [hg]
  · have hpush : ¬ ((∃ b, i = .rxPush b) ∧ s.rxCap ≤ s.rxLen) := fun ⟨hb, hfull⟩ => (hroom hb).not_ge hfull
    simp [hg, hi, hpush]

/-- No command changes ILLEGAL (R205). -/
theorem exec_illegal {i : Instr} {s t : State} (h : exec i s = .next t) : t.flag .illegal = s.flag .illegal := by
  rcases exec_flag_cases h with ⟨-, hg⟩ | ⟨-, -, hg⟩ | ⟨-, -, hg⟩ | ⟨-, -, hg⟩ | ⟨-, -, -, hg⟩
  · simp [hg]
  · simp [hg]
  · simp [hg]
  · simp [hg]
  · exact hg _

/-! The flags after a step: what sets each, and what lets it stand. -/

theorem step_incomplete_iff {s t : State} (h : step s = .next t) :
    t.flag .incomplete = true ↔
      (Ran s .decMeas ∧ s.rx.length < 15) ∨ (s.flag .incomplete = true ∧ ¬ WasReset s ∧ ¬ Ran s .decMeas) := by
  rcases step_cases_ran h with ⟨hw, hran, -, rfl⟩ | ⟨hw, hran, -, rfl⟩ | ⟨hw, -, i, hran, ht⟩ | ⟨hw, hran, -, rfl⟩
  · simp [hran, hw]
  · simp [hran, hw]
  · simp [exec_incomplete_iff ht, hran, hw, State.rxLen]
  · simp [hran, hw]

theorem step_rxovf_iff {s t : State} (h : step s = .next t) :
    t.flag .rxovf = true ↔
      ((∃ b, Ran s (.rxPush b)) ∧ s.rxCap ≤ s.rx.length) ∨
        (s.flag .rxovf = true ∧ ¬ WasReset s ∧ ¬ Ran s .rxClear) := by
  rcases step_cases_ran h with ⟨hw, hran, -, rfl⟩ | ⟨hw, hran, -, rfl⟩ | ⟨hw, -, i, hran, ht⟩ | ⟨hw, hran, -, rfl⟩
  · simp [hran, hw]
  · simp [hran, hw]
  · simp [exec_rxovf_iff ht, hran, hw, State.rxLen]
  · simp [hran, hw]

theorem step_illegal_iff {s t : State} (h : step s = .next t) :
    t.flag .illegal = true ↔ RanUndefined s ∨ (s.flag .illegal = true ∧ ¬ WasReset s) := by
  rcases step_cases_ran h with ⟨hw, -, hundef, rfl⟩ | ⟨hw, -, hundef, rfl⟩ | ⟨hw, hundef, i, -, ht⟩ |
    ⟨hw, -, hundef, rfl⟩
  · simp [hundef, hw]
  · simp [hundef, hw]
  · simp [exec_illegal ht, hundef, hw]
  · simp [hundef]

/-- Settles O17: a flag that was clear has nothing to stand, so only its cause is left of what sets it. -/
theorem flagsAreSetOnlyAsRuled : Obligations.FlagsAreSetOnlyAsRuled := by
  intro s t h
  refine ⟨fun hclear => ?_, fun hclear => ?_, fun hclear => ?_⟩
  · simp [step_incomplete_iff h, hclear]
  · simp [step_rxovf_iff h, hclear]
  · simp [step_illegal_iff h, hclear]

end Sys2Proof.Machine
end

section
/-! No command reads a flag (R32): run from two states that differ in STATUS and READY only, it leaves two states that
differ in STATUS and READY only, each bit of them written alike or kept in both. -/

namespace Sys2Proof.Machine

section

variable {s : State}

/-- RX_PUSH where there is room (R152). -/
theorem State.pushRx_of_room (hroom : s.rxLen < s.rxCap) (b : Byte) : s.pushRx b = s.setRx (s.rx ++ [b]) :=
  if_pos hroom

/-- RX_PUSH into a full buffer (R152). -/
theorem State.pushRx_of_full (hfull : s.rxCap ≤ s.rxLen) (b : Byte) : s.pushRx b = s.raiseFlag .rxovf :=
  if_neg hfull.not_gt

/-- DEC_MEAS of a short response (R154). -/
theorem State.decodeMeas_of_short (hshort : s.rxLen < 15) : s.decodeMeas = s.raiseFlag .incomplete :=
  if_pos hshort

/-- DEC_MEAS of a response that is long enough (R154). -/
theorem State.decodeMeas_of_long (hlong : 15 ≤ s.rxLen) :
    s.decodeMeas = (s.setReading s.readingDecoded).clearFlag .incomplete :=
  if_neg hlong.not_gt

end

/-- The state with another STATUS and another READY. -/
def State.withFlags (s : State) (v : Byte) (r : Bool) : State := (s.setStatus v).setReady r

/-- Two states that agree but for STATUS and READY differ by a change of the two. -/
theorem eq_withFlags_of_onlyWrites {s s' : State} (h : OnlyWrites [.status, .ready] s s') :
    s' = s.withFlags s'.status s'.ready := by
  cases s'
  cases s
  simpa [onlyWrites_iff, State.withFlags, State.setStatus, State.setReady, and_assoc] using h

theorem onlyWrites_withFlags (s : State) (v : Byte) (r : Bool) : OnlyWrites [.status, .ready] s (s.withFlags v r) := by
  simp [onlyWrites_iff, State.withFlags]

/-- What R32 says of a command that led from `s` to `t` and from `s'` to `t'`, where `s` and `s'` agree but for the
flags. -/
def FlagsUnread (s s' t t' : State) : Prop :=
  OnlyWrites [.status, .ready] t t' ∧
  (t'.ready = t.ready ∨ (t.ready = s.ready ∧ t'.ready = s'.ready)) ∧
  ∀ k, t'.status.getLsbD k = t.status.getLsbD k ∨
    (t.status.getLsbD k = s.status.getLsbD k ∧ t'.status.getLsbD k = s'.status.getLsbD k)

section

variable {s t : State} (v : Byte) (r : Bool)

/-- STATUS and READY are kept. -/
theorem flagsUnread_of_kept (hstatus : t.status = s.status) (hready : t.ready = s.ready) :
    FlagsUnread s (s.withFlags v r) t (t.withFlags v r) :=
  ⟨onlyWrites_withFlags t v r, .inr ⟨hready, rfl⟩, fun _ => .inr ⟨by rw [hstatus], rfl⟩⟩

/-- A raised flag is 1 in both; the other bits are kept. -/
theorem flagsUnread_raiseFlag (f : Flag) :
    FlagsUnread s (s.withFlags v r) (s.raiseFlag f) ((s.withFlags v r).raiseFlag f) := by
  refine ⟨onlyWrites_withFlags (s.raiseFlag f) _ r, .inr ⟨rfl, rfl⟩, fun k => ?_⟩
  rw [State.status_raiseFlag_getLsbD, State.status_raiseFlag_getLsbD]
  cases f.mask.getLsbD k with
  | true => exact .inl (by simp)
  | false => exact .inr (by simp)

/-- A cleared flag is 0 in both; the other bits are kept. -/
theorem flagsUnread_clearFlag (f : Flag) (hstatus : t.status = s.status) (hready : t.ready = s.ready) :
    FlagsUnread s (s.withFlags v r) (t.clearFlag f) ((t.withFlags v r).clearFlag f) := by
  refine ⟨onlyWrites_withFlags (t.clearFlag f) _ r, .inr ⟨hready, rfl⟩, fun k => ?_⟩
  rw [State.status_clearFlag_getLsbD, State.status_clearFlag_getLsbD, hstatus]
  cases (~~~f.mask).getLsbD k with
  | true => exact .inr (by simp [State.withFlags])
  | false => exact .inl (by simp)

/-- READY is written from the receive sequence, which the flags are no part of (R153). -/
theorem flagsUnread_decReady :
    FlagsUnread s (s.withFlags v r) (s.setReady s.readyDecoded)
      ((s.withFlags v r).setReady (s.withFlags v r).readyDecoded) :=
  ⟨onlyWrites_withFlags (s.setReady s.readyDecoded) v _, .inl rfl, fun _ => .inr ⟨rfl, rfl⟩⟩

/-- Both runs take the same one of the ten cases, since the flags decide none of them. -/
theorem exec_flagsUnread {i : Instr} {t' : State} (h : exec i s = .next t)
    (h' : exec i (s.withFlags v r) = .next t') : FlagsUnread s (s.withFlags v r) t t' := by
  rcases exec_cases h with ⟨rfl, rfl⟩ | ⟨b, rfl, rfl⟩ | ⟨a, d, rfl, rfl⟩ | ⟨a, d, rfl, rfl⟩ | ⟨rfl, rfl⟩ |
    ⟨b, rfl, hroom, rfl⟩ | ⟨b, rfl, hfull, rfl⟩ | ⟨rfl, rfl⟩ | ⟨rfl, hshort, rfl⟩ | ⟨rfl, hlong, rfl⟩
  · cases h'
    exact flagsUnread_of_kept v r rfl rfl
  · cases h'
    exact flagsUnread_of_kept v r rfl rfl
  · cases h'
    exact flagsUnread_of_kept v r rfl rfl
  · cases h'
    exact flagsUnread_of_kept v r rfl rfl
  · cases h'
    exact flagsUnread_clearFlag (t := s.setRx []) v r .rxovf rfl rfl
  · rw [exec_rxPush, State.pushRx_of_room (s := s.withFlags v r) hroom] at h'
    cases h'
    exact flagsUnread_of_kept v r rfl rfl
  · rw [exec_rxPush, State.pushRx_of_full (s := s.withFlags v r) hfull] at h'
    cases h'
    exact flagsUnread_raiseFlag v r .rxovf
  · cases h'
    exact flagsUnread_decReady v r
  · rw [exec_decMeas, State.decodeMeas_of_short (s := s.withFlags v r) hshort] at h'
    cases h'
    exact flagsUnread_raiseFlag v r .incomplete
  · rw [exec_decMeas, State.decodeMeas_of_long (s := s.withFlags v r) hlong] at h'
    cases h'
    exact flagsUnread_clearFlag (t := s.setReading s.readingDecoded) v r .incomplete rfl rfl

end

/-- Settles O19: the writers by what a command writes and what it does to each flag, the absence of a reader by
comparing a state with itself under other flags. -/
theorem flagsHaveTheirWritersAndNoReader : Obligations.FlagsHaveTheirWritersAndNoReader := by
  refine ⟨fun i s t h => ⟨fun hready => ?_, fun hinc => ?_, fun hclear hset => ?_, fun hset hclear => ?_,
    exec_illegal h⟩, fun c e s t hd h => ?_, fun i s s' t t' hagree h h' => ?_⟩
  · exact (ready_mem_writtenBy i s).1 (mem_writtenBy_of_changed (r := .ready) h hready)
  · by_contra hi
    exact hinc (Bool.eq_iff_iff.2 (by simp [exec_incomplete_iff h, hi]))
  · have hcause := (exec_rxovf_iff h).1 hset
    simp only [hclear, Bool.false_eq_true, false_and, or_false] at hcause
    exact hcause.1
  · by_contra hi
    exact absurd ((exec_rxovf_iff h).2 (.inr ⟨hset, hi⟩)) (by simp [hclear])
  · rw [issueWord_of_decode_error hd] at h
    cases h
    exact ⟨by simp, rfl, fun f hf => by simp [hf]⟩
  · rw [eq_withFlags_of_onlyWrites hagree] at h' ⊢
    exact exec_flagsUnread _ _ h h'

end Sys2Proof.Machine
end

section
/-! What a step does to the model's own two fields, and what it does when no command is issued (R51, R63, R212;
log entries 1 to 3). -/

namespace Sys2Proof.Machine

/-- Settles O9: nothing driven, and the state is held; else the sample is taken and, without `cmd_valid`, no more. -/
theorem stepWithoutCommandHoldsState : Obligations.StepWithoutCommandHoldsState := by
  refine ⟨fun s hi => step_of_inputs_nil hi, fun s p rest hi hr hv => ?_⟩
  rw [step_of_inputs_cons hi]
  exact samplePorts_of_not_cmdValid hr hv (s.setInputs rest)

theorem inputs_notMem_writtenBy (i : Instr) (s : State) : .inputs ∉ writtenBy i s := by
  cases i <;> simp

theorem rxCap_notMem_writtenBy (i : Instr) (s : State) : .rxCap ∉ writtenBy i s := by
  cases i <;> simp

/-- A command changes neither what the host drives nor `RX_CAP`. -/
theorem exec_keeps_inputs_rxCap {i : Instr} {s t : State} (h : exec i s = .next t) :
    t.inputs = s.inputs ∧ t.rxCap = s.rxCap :=
  ⟨exec_onlyWrites h .inputs (inputs_notMem_writtenBy i s), exec_onlyWrites h .rxCap (rxCap_notMem_writtenBy i s)⟩

/-- Settles O13: each kind of step acts on the state with the sample taken, and keeps both fields of that state. -/
theorem stepTakesOneSampleInOrder : Obligations.StepTakesOneSampleInOrder := by
  intro s t h
  rcases step_cases_ran h with ⟨-, -, -, rfl⟩ | ⟨-, -, -, rfl⟩ | ⟨-, -, i, -, ht⟩ | ⟨-, -, -, rfl⟩
  · exact ⟨rfl, rfl⟩
  · exact ⟨rfl, rfl⟩
  · exact exec_keeps_inputs_rxCap ht
  · exact ⟨rfl, rfl⟩

end Sys2Proof.Machine
end

section
/-! The generator driven by the two tables computes the table-free algorithm (R130, R131, R137, R138): one byte of
either is the same function of the standard value. -/

namespace Sys2Proof.Machine

/-- The standard value of a pair of running bytes: `CRC_L ++ CRC_H` (R137). -/
def CrcPair.standard (c : CrcPair) : Word16 := c.l ++ c.h

@[simp] theorem CrcPair.standard_lowByte (c : CrcPair) : c.standard.extractLsb' 0 8 = c.h :=
  BitVec.extractLsb'_append_eq_right

@[simp] theorem CrcPair.standard_highByte (c : CrcPair) : c.standard.extractLsb' 8 8 = c.l :=
  BitVec.extractLsb'_append_eq_left

/-- The two tables hold the two bytes of `T(i)` (R131 to R133). -/
theorem crcEntry_eq_tables : ∀ i : Byte, crcEntry i = crcTl i ++ crcTh i := by decide

theorem zeroExtend_eq_append (b : Byte) : b.zeroExtend 16 = 0x00#8 ++ b :=
  BitVec.setWidth_eq_append (by decide)

/-- A message byte meets the low byte of the running value only, so the high byte can be set apart. -/
theorem append_xor_zeroExtend (l h b : Byte) :
    (l ++ h) ^^^ b.zeroExtend 16 = (l ++ 0x00#8) ^^^ (h ^^^ b).zeroExtend 16 := by
  rw [zeroExtend_eq_append, zeroExtend_eq_append, BitVec.xor_append, BitVec.xor_append, BitVec.zero_xor]

/-- A byte moved down meets the low byte only. -/
theorem zeroExtend_xor_append (l x y : Byte) : l.zeroExtend 16 ^^^ (x ++ y) = x ++ (l ^^^ y) := by
  rw [zeroExtend_eq_append, BitVec.xor_append, BitVec.zero_xor]

/-- One byte fed to the generator is one byte of the table-free algorithm: by linearity the high byte moves down
unchanged and the low byte meets its table entry. -/
theorem CrcPair.standard_feed (c : CrcPair) (b : Byte) :
    (c.feed b).standard = crcBitwiseByte c.standard b :=
  Eq.symm <| calc
    crcShift8 ((c.l ++ c.h) ^^^ b.zeroExtend 16)
      = crcShift8 (c.l ++ 0#8) ^^^ crcEntry (c.h ^^^ b) := by
        rw [append_xor_zeroExtend, crcShift8_xor, crcEntry]
    _ = crcTl (c.h ^^^ b) ++ (c.l ^^^ crcTh (c.h ^^^ b)) := by
        rw [crcShift8_highByte, crcEntry_eq_tables, zeroExtend_xor_append]

theorem CrcPair.standard_foldl_feed (c : CrcPair) (bytes : List Byte) :
    (bytes.foldl CrcPair.feed c).standard = bytes.foldl crcBitwiseByte c.standard := by
  induction bytes generalizing c with
  | nil => rfl
  | cons b bytes ih => rw [List.foldl_cons, List.foldl_cons, ih, c.standard_feed]

/-- The generator run over a message from the seed leaves the message's CRC-16/MODBUS (R138). -/
theorem standard_crcOfBytes (bytes : List Byte) : (crcOfBytes bytes).standard = crc16ModbusBitwise bytes :=
  CrcPair.seed.standard_foldl_feed bytes

end Sys2Proof.Machine
end

section
/-! The request frame and its CRC (R54, R110, R111). -/

namespace Sys2Proof.Machine

@[simp] theorem State.crcResult_highByte (s : State) : s.crcResult.extractLsb' 8 8 = s.crcH :=
  BitVec.extractLsb'_append_eq_left

@[simp] theorem State.crcResult_lowByte (s : State) : s.crcResult.extractLsb' 0 8 = s.crcL :=
  BitVec.extractLsb'_append_eq_right

/-- The frame in wire order: the six bytes the CRC is taken over, then its two bytes, low-order first. -/
theorem requestFrame_toList (fc : Byte) (a d : Word16) :
    (requestFrame fc a d).toList = frameHead fc a d ++
      [(crc16ModbusBitwise (frameHead fc a d)).extractLsb' 0 8,
       (crc16ModbusBitwise (frameHead fc a d)).extractLsb' 8 8] := by
  rw [← standard_crcOfBytes, CrcPair.standard_lowByte, CrcPair.standard_highByte]
  rfl

/-- Both BUILD commands leave the frame of their function code, and its CRC in the generator (R111). -/
theorem exec_build_registers {fc : Byte} {a d : Word16} {i : Instr} {s t : State}
    (hi : (fc = 0x03#8 ∧ i = .buildRd a d) ∨ (fc = 0x06#8 ∧ i = .buildWr a d)) (h : exec i s = .next t) :
    t.tx = requestFrame fc a d ∧ t.crcH = (frameCrc fc a d).h ∧ t.crcL = (frameCrc fc a d).l := by
  rcases hi with ⟨rfl, rfl⟩ | ⟨rfl, rfl⟩
  · cases h
    exact ⟨rfl, rfl, rfl⟩
  · cases h
    exact ⟨rfl, rfl, rfl⟩

/-- Settles O30: the frame is the head with the generator's CRC, which is the table-free one. -/
theorem requestFrameCarriesItsModbusCrc : Obligations.RequestFrameCarriesItsModbusCrc := by
  intro fc a d i s t hi h
  obtain ⟨htx, hh, hl⟩ := exec_build_registers hi h
  have hb6 : t.tx.b6 = t.crcH := by rw [htx, hh]; rfl
  have hb7 : t.tx.b7 = t.crcL := by rw [htx, hl]; rfl
  refine ⟨crc16ModbusBitwise (frameHead fc a d), rfl, ?_, hb6, hb7, ?_, ?_⟩
  · rw [htx, requestFrame_toList]
    rfl
  · rw [t.crcResult_highByte, hb6]
  · rw [t.crcResult_lowByte, hb7]

end Sys2Proof.Machine
end

section
/-! What each output shows (R24 to R31, R51). -/

namespace Sys2Proof.Machine

section

variable (s : State)

/-! The receive sequence. -/

/-- Below `RXLEN` the output `RXi` is the byte held (R26). -/
theorem State.rx_getElem?_of_lt {i : Nat} (h : i < s.rx.length) : s.rx[i]? = some (s.rxByte i) := by
  rw [s.rxByte_of_lt h, List.getElem?_eq_getElem h]

/-- At and past `RXLEN` the output `RXi` is 0x00 (R26). -/
theorem State.rxByte_of_ge {i : Nat} (h : s.rx.length ≤ i) : s.rxByte i = 0x00#8 :=
  List.getD_eq_default _ _ h

theorem State.map_rxByte_range : (List.range s.rx.length).map s.rxByte = s.rx := by
  refine List.ext_getElem (by simp) fun i _ h => ?_
  rw [List.getElem_map, List.getElem_range, s.rxByte_of_lt h]

/-- The first `RXLEN` of the outputs `RXi` are the sequence held, where it fits. -/
theorem State.outputs_rx_take (h : s.rx.length ≤ s.rxCap) : s.outputs.rx.take s.rx.length = s.rx := by
  rw [s.outputs_rx, ← List.map_take, List.take_range, Nat.min_eq_left h, s.map_rxByte_range]

/-- There are `RX_CAP` outputs `RXi` (R51). -/
theorem State.outputs_rx_length : s.outputs.rx.length = s.rxCap := by
  rw [s.outputs_rx, List.length_map, List.length_range]

theorem State.outputs_rx_getElem?_of_lt {i : Nat} (h : i < s.rxCap) : s.outputs.rx[i]? = some (s.rxByte i) := by
  simp [h]

/-! The width of `RXLEN` (log entry 10). -/

/-- `rxLenWidth` is ceil(log2(cap + 1)): the least width that holds `cap`. -/
theorem rxLenWidth_bounds {cap : Nat} (h : cap ≠ 0) :
    2 ^ (rxLenWidth cap - 1) < cap + 1 ∧ cap + 1 ≤ 2 ^ rxLenWidth cap :=
  ⟨Nat.lt_succ_of_le (Nat.log2_self_le h), Nat.lt_log2_self⟩

/-- A length within `RX_CAP` is shown whole. -/
theorem State.rxLenOut_toNat (h : s.rx.length ≤ s.rxCap) : s.rxLenOut.toNat = s.rx.length := by
  have hfits : s.rx.length < 2 ^ rxLenWidth s.rxCap := h.trans_lt Nat.lt_log2_self
  rw [State.rxLenOut, BitVec.toNat_ofNat]
  exact Nat.mod_eq_of_lt hfits

/-! STATUS (R31, log entry 5). -/

theorem State.statusOut_reserved : s.statusOut.extractLsb' 3 5 = 0#5 := by
  have hmask : statusMask.extractLsb' 3 5 = 0#5 := by decide
  rw [State.statusOut, BitVec.extractLsb'_and, hmask, BitVec.and_zero]

theorem State.statusOut_getLsbD_bit (f : Flag) : s.statusOut.getLsbD f.bit = s.flag f := by
  have hmask : statusMask.getLsbD f.bit = true := by cases f <;> rfl
  rw [State.statusOut, BitVec.getLsbD_and, hmask, Bool.and_true, State.flag]

theorem and_statusMask_of_reserved : ∀ v : Byte, v.extractLsb' 3 5 = 0#5 → v &&& statusMask = v := by decide

/-! `TX` and `READY`. -/

theorem State.tx_getElem? (i : Fin 8) : s.tx.toList[i.val]? = some (s.txOut i) := by
  have hi : i.val < s.tx.toList.length := i.isLt
  rw [State.txOut, List.getD_eq_getElem _ _ hi, List.getElem?_eq_getElem hi]

theorem State.readyOut_eq : s.readyOut = if s.ready then 1#1 else 0#1 := by
  unfold State.readyOut
  cases s.ready <;> rfl

end

/-- In a state the spec allows STATUS, `RXLEN` and the first `RXLEN` of `RXi` are the registers held. -/
theorem State.WellFormed.outputs_show {s : State} (h : s.WellFormed) :
    s.statusOut = s.status ∧ s.rxLenOut.toNat = s.rx.length ∧ s.outputs.rx.take s.rx.length = s.rx := by
  obtain ⟨-, hlen, hstatus⟩ := h
  exact ⟨and_statusMask_of_reserved s.status hstatus, s.rxLenOut_toNat hlen, s.outputs_rx_take hlen⟩

/-- Settles O43, output by output. -/
theorem outputsShowTheRegisters : Obligations.OutputsShowTheRegisters := by
  refine ⟨fun s => ⟨⟨rfl, s.crcResult_highByte, s.crcResult_lowByte⟩, ⟨rfl, s.tx_getElem?⟩,
    ⟨s.outputs_rx_length, fun i hi => s.outputs_rx_getElem?_of_lt hi⟩, fun i hi => s.rx_getElem?_of_lt hi,
    fun i hi => s.rxByte_of_ge hi, ⟨rfl, s.readyOut_eq⟩, rfl, rfl, rfl,
    ⟨rfl, s.statusOut_reserved, s.statusOut_getLsbD_bit⟩, rfl, State.WellFormed.outputs_show⟩, fun cap hcap => ?_⟩
  exact rxLenWidth_bounds (by omega)

end Sys2Proof.Machine
end

section
/-! Decoding and encoding are inverse to each other, and the decoder follows the opcode map (R80 to R83, R85). -/

namespace Sys2Proof

/-! The fields of a packed word. -/

section

variable (op : BitVec 4) (a d : Word16) (b : Byte)

@[simp] theorem opOf_packWord : opOf (packWord op a d) = op := ((packWord_eq_iff op a d _).1 rfl).1

@[simp] theorem zOf_packWord : zOf (packWord op a d) = 0#4 := ((packWord_eq_iff op a d _).1 rfl).2.1

@[simp] theorem aOf_packWord : aOf (packWord op a d) = a := ((packWord_eq_iff op a d _).1 rfl).2.2.1

@[simp] theorem dOf_packWord : dOf (packWord op a d) = d := ((packWord_eq_iff op a d _).1 rfl).2.2.2

@[simp] theorem dHiOf_packWord_byte : dHiOf (packWord op a (0x00#8 ++ b)) = 0#8 :=
  ((dOf_eq_byte_iff _ b).1 (dOf_packWord op a _)).1

@[simp] theorem bOf_packWord_byte : bOf (packWord op a (0x00#8 ++ b)) = b :=
  ((dOf_eq_byte_iff _ b).1 (dOf_packWord op a _)).2

end

/-- Settles O3, command by command: the opcode picks the command's arm, and the reserved fields are packed as 0. -/
theorem decodeOfEncodeIsTheCommand : Obligations.DecodeOfEncodeIsTheCommand := by
  intro i
  cases i with
  | crcInit => simp [encode, decode, decodePlain_ok_iff]
  | crcFeed b => simp [encode, decode, decodeByte_ok_iff]
  | buildRd a d => simp [encode, decode]
  | buildWr a d => simp [encode, decode]
  | rxClear => simp [encode, decode, decodePlain_ok_iff]
  | rxPush b => simp [encode, decode, decodeByte_ok_iff]
  | decReady => simp [encode, decode, decodePlain_ok_iff]
  | decMeas => simp [encode, decode, decodePlain_ok_iff]

/-- A word with `Z` 0 whose opcode is that of a command without operands. -/
theorem packWord_eq_of_decodePlain {c : Cmd40} {op : BitVec 4} {i j : Instr} (hz : zOf c = 0) (hop : opOf c = op)
    (h : decodePlain c i = .ok j) : i = j ∧ packWord op 0 0 = c := by
  obtain ⟨ha, hd, hij⟩ := (decodePlain_ok_iff c i j).1 h
  exact ⟨hij, (packWord_eq_iff op 0 0 c).2 ⟨hop, hz, ha, hd⟩⟩

/-- A word with `Z` 0 whose opcode is that of a command with a byte operand. -/
theorem packWord_eq_of_decodeByte {c : Cmd40} {op : BitVec 4} {mk : Byte → Instr} {j : Instr} (hz : zOf c = 0)
    (hop : opOf c = op) (h : decodeByte c mk = .ok j) : mk (bOf c) = j ∧ packWord op 0 (0x00#8 ++ bOf c) = c := by
  obtain ⟨ha, hd, hij⟩ := (decodeByte_ok_iff c mk j).1 h
  exact ⟨hij, (packWord_eq_iff op 0 _ c).2 ⟨hop, hz, ha, (dOf_eq_byte_iff c _).2 ⟨hd, rfl⟩⟩⟩

/-- Settles O4, arm by arm of the decoder: each arm fixes `OP`, `Z` and the reserved fields, and the operands are
the fields left. -/
theorem encodeOfDecodeIsTheWord : Obligations.EncodeOfDecodeIsTheWord := by
  intro c i h
  unfold decode at h
  split at h
  next => cases h
  next hz =>
    have hz : zOf c = 0 := not_not.1 hz
    split at h
    next hop => obtain ⟨rfl, hc⟩ := packWord_eq_of_decodePlain hz hop h; exact hc
    next hop => obtain ⟨rfl, hc⟩ := packWord_eq_of_decodeByte hz hop h; exact hc
    next hop => cases h; exact (packWord_eq_iff _ _ _ c).2 ⟨hop, hz, rfl, rfl⟩
    next hop => cases h; exact (packWord_eq_iff _ _ _ c).2 ⟨hop, hz, rfl, rfl⟩
    next hop => obtain ⟨rfl, hc⟩ := packWord_eq_of_decodePlain hz hop h; exact hc
    next hop => obtain ⟨rfl, hc⟩ := packWord_eq_of_decodeByte hz hop h; exact hc
    next hop => obtain ⟨rfl, hc⟩ := packWord_eq_of_decodePlain hz hop h; exact hc
    next hop => obtain ⟨rfl, hc⟩ := packWord_eq_of_decodePlain hz hop h; exact hc
    next => cases h

/-- The word of a command is the only word that decodes to it. -/
theorem decode_eq_ok_iff (c : Cmd40) (i : Instr) : decode c = .ok i ↔ encode i = c :=
  ⟨encodeOfDecodeIsTheWord c i, fun h => h ▸ decodeOfEncodeIsTheCommand i⟩

/-- Settles O1: each of the words is its command's. -/
theorem writtenOutWordsDecode : Obligations.WrittenOutWordsDecode := by
  simp only [Obligations.WrittenOutWordsDecode, decode_eq_ok_iff]
  decide

/-- Settles O2: the word that decodes to a command is the command's, which its four fields determine. -/
theorem decodeFollowsOpcodeMap : Obligations.DecodeFollowsOpcodeMap := by
  intro c i
  have fields (op : BitVec 4) (a d : Word16) :
      packWord op a d = c ↔ zOf c = 0#4 ∧ opOf c = op ∧ aOf c = a ∧ dOf c = d :=
    (packWord_eq_iff op a d c).trans and_left_comm
  rw [decode_eq_ok_iff]
  cases i with
  | crcInit => exact fields 0x1#4 0 0
  | crcFeed b => exact fields 0x2#4 0 (0x00#8 ++ b)
  | buildRd a d => exact fields 0x3#4 a d
  | buildWr a d => exact fields 0x4#4 a d
  | rxClear => exact fields 0x5#4 0 0
  | rxPush b => exact fields 0x6#4 0 (0x00#8 ++ b)
  | decReady => exact fields 0x7#4 0 0
  | decMeas => exact fields 0x8#4 0 0

end Sys2Proof
end

section
/-! The rows of the opcode table by mask and value, beside the decoder (R82, R83). -/

namespace Sys2Proof

/-- The word of a command has its row's fixed bits. -/
theorem row_admits_encode (i : Instr) : i.row.admits (encode i) = true := by
  cases i with
  | crcInit => exact Laws.RowMatch.crcInit
  | crcFeed b => exact Laws.RowMatch.crcFeed b
  | buildRd a d => exact Laws.RowMatch.buildRd a d
  | buildWr a d => exact Laws.RowMatch.buildWr a d
  | rxClear => exact Laws.RowMatch.rxClear
  | rxPush b => exact Laws.RowMatch.rxPush b
  | decReady => exact Laws.RowMatch.decReady
  | decMeas => exact Laws.RowMatch.decMeas

/-- Every command has a row in the table. -/
theorem row_mem_opcodeTable (i : Instr) : i.row ∈ opcodeTable := by
  cases i <;> simp [opcodeTable, Instr.row]

/-- A field that a row fixes whole has the row's value in every word that the row admits. -/
theorem field_of_admits {m v c : Cmd40} (h : TableRow.admits ⟨m, v⟩ c = true) (k w : Nat)
    (hmask : m.extractLsb' k w = BitVec.allOnes w) : c.extractLsb' k w = v.extractLsb' k w := by
  have hc : c &&& m = v := beq_iff_eq.1 h
  rw [← hc, BitVec.extractLsb'_and, hmask, BitVec.and_allOnes]

/-- A word that a row of a command without operands admits. -/
theorem packWord_eq_of_admits_plain {c : Cmd40} {op : BitVec 4}
    (h : TableRow.admits ⟨0xFFFFFFFFFF#40, packWord op 0 0⟩ c = true) : packWord op 0 0 = c := by
  have hall : c.extractLsb' 0 40 = (packWord op 0 0).extractLsb' 0 40 := field_of_admits h 0 40 (by decide)
  simpa using hall.symm

/-- A word that a row of a command with a byte operand admits. -/
theorem packWord_eq_of_admits_byte {c : Cmd40} {op : BitVec 4}
    (h : TableRow.admits ⟨0xFFFFFFFF00#40, packWord op 0 0⟩ c = true) : packWord op 0 (0x00#8 ++ bOf c) = c := by
  have hop : opOf c = op := (field_of_admits h 36 4 (by decide)).trans (opOf_packWord op 0 0)
  have hz : zOf c = 0#4 := (field_of_admits h 32 4 (by decide)).trans (zOf_packWord op 0 0)
  have ha : aOf c = 0#16 := (field_of_admits h 16 16 (by decide)).trans (aOf_packWord op 0 0)
  have hd : dHiOf c = 0#8 := (field_of_admits h 8 8 (by decide)).trans (dHiOf_packWord_byte op 0 0)
  exact (packWord_eq_iff _ _ _ c).2 ⟨hop, hz, ha, (dOf_eq_byte_iff c _).2 ⟨hd, rfl⟩⟩

/-- A word that a row of a BUILD command admits. -/
theorem packWord_eq_of_admits_build {c : Cmd40} {op : BitVec 4}
    (h : TableRow.admits ⟨0xFF00000000#40, packWord op 0 0⟩ c = true) : packWord op (aOf c) (dOf c) = c := by
  have hop : opOf c = op := (field_of_admits h 36 4 (by decide)).trans (opOf_packWord op 0 0)
  have hz : zOf c = 0#4 := (field_of_admits h 32 4 (by decide)).trans (zOf_packWord op 0 0)
  exact (packWord_eq_iff _ _ _ c).2 ⟨hop, hz, rfl, rfl⟩

/-- A word that a row admits is a command's word: the operands are the bits that the mask leaves out. -/
theorem exists_encode_eq_of_admits {r : TableRow} {c : Cmd40} (hr : r ∈ opcodeTable) (h : r.admits c = true) :
    ∃ i, encode i = c := by
  simp only [opcodeTable, List.mem_cons, List.not_mem_nil, or_false] at hr
  rcases hr with rfl | rfl | rfl | rfl | rfl | rfl | rfl | rfl
  · exact ⟨.crcInit, packWord_eq_of_admits_plain h⟩
  · exact ⟨.crcFeed (bOf c), packWord_eq_of_admits_byte h⟩
  · exact ⟨.buildRd (aOf c) (dOf c), packWord_eq_of_admits_build h⟩
  · exact ⟨.buildWr (aOf c) (dOf c), packWord_eq_of_admits_build h⟩
  · exact ⟨.rxClear, packWord_eq_of_admits_plain h⟩
  · exact ⟨.rxPush (bOf c), packWord_eq_of_admits_byte h⟩
  · exact ⟨.decReady, packWord_eq_of_admits_plain h⟩
  · exact ⟨.decMeas, packWord_eq_of_admits_plain h⟩

/-- Every row fixes `OP`. -/
theorem opOf_eq_of_admits {r : TableRow} {c : Cmd40} (hr : r ∈ opcodeTable) (h : r.admits c = true) :
    opOf c = opOf r.value := by
  have hmask : ∀ r ∈ opcodeTable, r.mask.extractLsb' 36 4 = BitVec.allOnes 4 := by decide
  exact field_of_admits h 36 4 (hmask r hr)

/-- No two rows have the same opcode. -/
theorem countP_opcode_le_one : ∀ op : BitVec 4, opcodeTable.countP (fun r => op == opOf r.value) ≤ 1 := by decide

/-- At most one row admits a word, since each fixes `OP` at an opcode of its own. -/
theorem admitting_rows_le_one (c : Cmd40) : (opcodeTable.filter (TableRow.admits · c)).length ≤ 1 := by
  rw [← List.countP_eq_length_filter]
  refine le_trans (List.countP_mono_left fun r hr h => ?_) (countP_opcode_le_one (opOf c))
  exact beq_iff_eq.2 (opOf_eq_of_admits hr h)

/-- Settles O5: a word that some row admits is a command's word, and so is a word that decodes. -/
theorem decodeAgreesWithOpcodeTable : Obligations.DecodeAgreesWithOpcodeTable := by
  intro c
  have own (i : Instr) (hi : decode c = .ok i) : i.row.admits c = true :=
    (decode_eq_ok_iff c i).1 hi ▸ row_admits_encode i
  refine ⟨⟨fun ⟨i, hi⟩ => ?_, fun h => ?_⟩, own, admitting_rows_le_one c⟩
  · exact List.any_eq_true.2 ⟨i.row, row_mem_opcodeTable i, own i hi⟩
  · obtain ⟨r, hr, hadmits⟩ := List.any_eq_true.1 h
    obtain ⟨i, hi⟩ := exists_encode_eq_of_admits hr hadmits
    exact ⟨i, (decode_eq_ok_iff c i).2 hi⟩

end Sys2Proof
end

section
/-! The step in which the host issues a word: a command's word runs the command, any other raises ILLEGAL and
changes nothing else (R7, R83 to R85). -/

namespace Sys2Proof.Machine

/-- Settles O8, by the equations of the step's layers. -/
theorem stepRunsTheDecodedCommand : Obligations.StepRunsTheDecodedCommand := by
  intro s c i rest hi hd
  rw [step_of_inputs_cons hi, samplePorts_of_cmdValid rfl rfl]
  exact issueWord_of_decode_ok hd (s.setInputs rest)

/-- An undefined word has the effect of R83. -/
theorem raisesIllegalOnly_of_decode_error {c : Cmd40} {e : Undefined} (hd : decode c = .error e) :
    RaisesIllegalOnly c := by
  intro s rest hi
  refine ⟨(s.setInputs rest).raiseFlag .illegal, ?_, rfl, rfl, by simp [onlyWrites_iff]⟩
  rw [step_of_inputs_cons hi, samplePorts_of_cmdValid rfl rfl]
  exact issueWord_of_decode_error hd (s.setInputs rest)

/-- A word that is no command's word is undefined and has the effect of R83. -/
theorem undefined_of_forall_encode_ne {c : Cmd40} (h : ∀ i, encode i ≠ c) :
    (∃ e, decode c = .error e) ∧ RaisesIllegalOnly c := by
  cases hd : decode c with
  | ok i => exact absurd ((decode_eq_ok_iff c i).1 hd) (h i)
  | error e => exact ⟨⟨e, rfl⟩, raisesIllegalOnly_of_decode_error hd⟩

/-- The opcodes of the commands are 0x1 to 0x8 (R82). -/
theorem opOf_encode_defined (i : Instr) : opOf (encode i) ≠ 0x0#4 ∧ opOf (encode i) < 0x9#4 := by
  cases i <;> simp [encode]

/-- Settles O6: no command has a reserved opcode. -/
theorem reservedOpcodeRaisesIllegalOnly : Obligations.ReservedOpcodeRaisesIllegalOnly := by
  have reserved (c : Cmd40) (hop : opOf c = 0x0#4 ∨ 0x9#4 ≤ opOf c) :
      (∃ e, decode c = .error e) ∧ RaisesIllegalOnly c := by
    refine undefined_of_forall_encode_ne fun i hi => ?_
    subst hi
    obtain ⟨hzero, hlt⟩ := opOf_encode_defined i
    exact hop.elim hzero (BitVec.not_le.2 hlt)
  exact ⟨reserved, reserved 0 (.inl (by decide))⟩

/-- The reserved fields of a command's word are 0 (R82). -/
theorem encode_reserved_fields (i : Instr) :
    zOf (encode i) = 0#4 ∧
    (opOf (encode i) ∉ [0x3#4, 0x4#4] → aOf (encode i) = 0#16) ∧
    (opOf (encode i) ∉ [0x3#4, 0x4#4, 0x2#4, 0x6#4] → dOf (encode i) = 0#16) ∧
    (opOf (encode i) ∈ [0x2#4, 0x6#4] → dHiOf (encode i) = 0#8) := by
  cases i <;> simp [encode]

/-- Settles O7: no command's word has a nonzero reserved field. -/
theorem nonzeroReservedFieldRaisesIllegalOnly : Obligations.NonzeroReservedFieldRaisesIllegalOnly := by
  intro c _ _ hreserved
  refine undefined_of_forall_encode_ne fun i hi => ?_
  subst hi
  obtain ⟨hz, ha, hd, hdHi⟩ := encode_reserved_fields i
  rcases hreserved with h | ⟨hop, h⟩ | ⟨hop, h⟩ | ⟨hop, h⟩
  · exact h hz
  · exact h (ha hop)
  · exact h (hd hop)
  · exact h (hdHi hop)

end Sys2Proof.Machine
end

section
/-! A list of commands issued one a step, and the receive sequence that RX_CLEAR and any number of RX_PUSH leave
(R63, R89, R151, R152). -/

namespace Sys2Proof.Machine

/-- The first command of a list issued by the host runs, and the steps left run from there. -/
theorem runSteps_commandSamples_cons {i : Instr} {is : List Instr} {s t : State} {rest : List PortSample} (n : Nat)
    (hi : s.inputs = commandSamples (i :: is) ++ rest)
    (h : exec i (s.setInputs (commandSamples is ++ rest)) = .next t) : runSteps (n + 1) s = runSteps n t := by
  have hstep : step s = .next t :=
    (stepRunsTheDecodedCommand s (encode i) i _ hi (decodeOfEncodeIsTheCommand i)).trans h
  rw [runSteps, hstep]

/-- A frame within a larger one. -/
theorem OnlyWrites.mono {l l' : List Reg} {s t : State} (h : OnlyWrites l s t) (hsub : l ⊆ l') : OnlyWrites l' s t :=
  fun r hr => h r fun hmem => hr (hsub hmem)

/-- The bytes pushed one after the other (R152). -/
def State.pushAll (s : State) (bytes : List Byte) : State := bytes.foldl State.pushRx s

@[simp] theorem State.pushAll_nil (s : State) : s.pushAll [] = s := rfl

@[simp] theorem State.pushAll_cons (s : State) (b : Byte) (bytes : List Byte) :
    s.pushAll (b :: bytes) = (s.pushRx b).pushAll bytes := rfl

/-- A push does not read what the host drives. -/
theorem State.pushRx_setInputs (s : State) (ins : List PortSample) (b : Byte) :
    (s.setInputs ins).pushRx b = (s.pushRx b).setInputs ins := by
  rcases s.pushRx_cases b with ⟨hroom, h⟩ | ⟨hfull, h⟩
  · rw [h, State.pushRx_of_room (s := s.setInputs ins) hroom]
    rfl
  · rw [h, State.pushRx_of_full (s := s.setInputs ins) hfull]
    rfl

/-- One RX_PUSH per byte, run by the machine's own steps. -/
theorem runSteps_rxPush {bytes : List Byte} {s : State} {rest : List PortSample}
    (hi : s.inputs = commandSamples (bytes.map .rxPush) ++ rest) :
    runSteps bytes.length s = .next ((s.setInputs rest).pushAll bytes) := by
  induction bytes generalizing s with
  | nil =>
    obtain rfl : s.inputs = rest := hi
    rfl
  | cons b bytes ih =>
    rw [List.length_cons, runSteps_commandSamples_cons _ hi (exec_rxPush b _), State.pushRx_setInputs, ih rfl,
      State.pushAll_cons, State.pushRx_setInputs]
    rfl

/-! What the pushes leave. -/

@[simp] theorem State.pushRx_rxCap (s : State) (b : Byte) : (s.pushRx b).rxCap = s.rxCap :=
  (exec_keeps_inputs_rxCap (exec_rxPush b s)).2

/-- A push onto a sequence that fits leaves as much of it as fits. -/
theorem State.pushRx_rx {s : State} (h : s.rx.length ≤ s.rxCap) (b : Byte) :
    (s.pushRx b).rx = (s.rx ++ [b]).take s.rxCap := by
  rcases s.pushRx_cases b with ⟨hroom, hp⟩ | ⟨hfull, hp⟩
  · have hlen : (s.rx ++ [b]).length ≤ s.rxCap := by simpa using (show s.rx.length < s.rxCap from hroom)
    rw [hp, List.take_of_length_le hlen]
    rfl
  · rw [hp, List.take_append_of_le_length hfull, List.take_of_length_le h]
    rfl

theorem State.pushRx_rx_length_le {s : State} (h : s.rx.length ≤ s.rxCap) (b : Byte) :
    (s.pushRx b).rx.length ≤ (s.pushRx b).rxCap := by
  rw [State.pushRx_rx h, s.pushRx_rxCap]
  exact List.length_take_le _ _

theorem take_append_take {α : Type} (n : Nat) (l m : List α) : (l.take n ++ m).take n = (l ++ m).take n := by
  rw [List.take_append, List.take_append, List.take_take, Nat.min_self, List.length_take]
  congr 2
  omega

theorem State.pushAll_rx {s : State} (h : s.rx.length ≤ s.rxCap) (bytes : List Byte) :
    (s.pushAll bytes).rx = (s.rx ++ bytes).take s.rxCap := by
  induction bytes generalizing s with
  | nil => rw [List.append_nil, List.take_of_length_le h, s.pushAll_nil]
  | cons b bytes ih =>
    rw [s.pushAll_cons, ih (State.pushRx_rx_length_le h b), State.pushRx_rx h, s.pushRx_rxCap, take_append_take,
      List.append_assoc, List.singleton_append]

/-- RXOVF stands after the pushes where it stood before them or where the last byte found no room. -/
theorem State.pushAll_rxovf {s : State} (h : s.rx.length ≤ s.rxCap) (bytes : List Byte) :
    (s.pushAll bytes).flag .rxovf = true ↔ s.flag .rxovf = true ∨ s.rxCap < s.rx.length + bytes.length := by
  induction bytes generalizing s with
  | nil => simp [h.not_gt]
  | cons b bytes ih =>
    rw [s.pushAll_cons, ih (State.pushRx_rx_length_le h b)]
    rcases s.pushRx_cases b with ⟨hroom, hp⟩ | ⟨hfull, hp⟩
    · simp [hp, Nat.add_assoc, Nat.add_comm 1]
    · have hfull : s.rxCap ≤ s.rx.length := hfull
      have hover : s.rxCap < s.rx.length + (b :: bytes).length := by rw [List.length_cons]; omega
      exact iff_of_true (by simp [hp]) (.inr hover)

theorem State.pushRx_onlyWrites (s : State) (b : Byte) : OnlyWrites [.rx, .status] s (s.pushRx b) := by
  rcases s.pushRx_cases b with ⟨-, hp⟩ | ⟨-, hp⟩ <;> simp [hp, onlyWrites_iff]

theorem State.pushAll_onlyWrites (s : State) (bytes : List Byte) : OnlyWrites [.rx, .status] s (s.pushAll bytes) := by
  induction bytes generalizing s with
  | nil => exact fun r _ => by cases r <;> rfl
  | cons b bytes ih => exact (s.pushRx_onlyWrites b).trans (ih (s.pushRx b))

theorem State.pushAll_flag_of_ne (s : State) (bytes : List Byte) {f : Flag} (hf : f ≠ .rxovf) :
    (s.pushAll bytes).flag f = s.flag f := by
  induction bytes generalizing s with
  | nil => rfl
  | cons b bytes ih =>
    rw [s.pushAll_cons, ih]
    rcases s.pushRx_cases b with ⟨-, hp⟩ | ⟨-, hp⟩ <;> simp [hp, hf]

/-! RX_CLEAR, then the pushes (R89). -/

/-- The receive sequence emptied, then the bytes pushed. -/
def State.receive (s : State) (bytes : List Byte) : State := s.clearRx.pushAll bytes

theorem State.receive_rx (s : State) (bytes : List Byte) : (s.receive bytes).rx = bytes.take s.rxCap :=
  State.pushAll_rx (Nat.zero_le _) bytes

theorem State.receive_rxovf (s : State) (bytes : List Byte) :
    (s.receive bytes).flag .rxovf = true ↔ s.rxCap < bytes.length := by
  rw [State.receive, State.pushAll_rxovf (Nat.zero_le _)]
  simp

theorem State.receive_flag_of_ne (s : State) (bytes : List Byte) {f : Flag} (hf : f ≠ .rxovf) :
    (s.receive bytes).flag f = s.flag f := by
  rw [State.receive, State.pushAll_flag_of_ne _ _ hf]
  simp [hf]

theorem State.receive_onlyWrites (s : State) (bytes : List Byte) : OnlyWrites [.rx, .status] s (s.receive bytes) :=
  OnlyWrites.trans (by simp [onlyWrites_iff]) (s.clearRx.pushAll_onlyWrites bytes)

/-- The words of RECV, run by the machine's own steps. -/
theorem runSteps_recv {bytes : List Byte} {s : State} {rest : List PortSample}
    (hi : s.inputs = commandSamples (Pseudo.recv bytes).expand ++ rest) :
    runSteps (bytes.length + 1) s = .next ((s.setInputs rest).receive bytes) := by
  rw [runSteps_commandSamples_cons _ hi (exec_rxClear _), runSteps_rxPush rfl]
  rfl

/-- Settles O35: RX_CLEAR leaves an empty sequence and RXOVF clear, and the bytes are pushed from there. -/
theorem receivedBytesFillTheBufferUpToCapacity : Obligations.ReceivedBytesFillTheBufferUpToCapacity := by
  intro bytes s rest hi
  have htaken : OnlyWrites [.rx, .status, .inputs] s (s.setInputs rest) := by simp [onlyWrites_iff]
  have hframe := (s.setInputs rest).receive_onlyWrites bytes
  exact ⟨_, runSteps_recv hi, State.receive_rx _ bytes, State.receive_rxovf _ bytes,
    fun f hf => State.receive_flag_of_ne _ bytes hf, hframe .inputs (by decide), htaken.trans (hframe.mono (by simp))⟩

end Sys2Proof.Machine
end

section
/-! The assembler's statements: the expansions of R89, and which operands R88 lets through. -/

namespace Sys2Proof.Machine

/-- Settles O44: each expansion is as listed, and those over bytes have one command before the bytes' own. -/
theorem pseudoInstructionsExpandAsListed : Obligations.PseudoInstructionsExpandAsListed := by
  refine ⟨rfl, rfl, fun _ => rfl, fun _ => rfl, fun _ => rfl, fun _ => rfl, rfl, rfl, fun _ => rfl, fun _ => rfl,
    fun bytes => ⟨rfl, ?_⟩, fun bytes => ⟨rfl, ?_⟩⟩
  · rw [Pseudo.expand, List.length_cons, List.length_map]
  · rw [Pseudo.expand, List.length_cons, List.length_map]

/-! An operand that fits its field is taken whole, and no other is taken (R88). -/

theorem byteField_toNat (b : Byte) : byteField b.toNat = some b := by
  simp [byteField, fitsField, b.isLt]

theorem wordField_toNat (v : Word16) : wordField v.toNat = some v := by
  simp [wordField, fitsField, v.isLt]

theorem isSome_byteField (n : Nat) : (byteField n).isSome = decide (n ≤ 255) := by
  rw [byteField, Bool.eq_iff_iff]
  simp [fitsField, Nat.lt_succ_iff]

theorem isSome_wordField (n : Nat) : (wordField n).isSome = decide (n ≤ 65535) := by
  rw [wordField, Bool.eq_iff_iff]
  simp [fitsField, Nat.lt_succ_iff]

/-! A command's operands are those of its fields. -/

theorem coreStatement_crcFeed (n : Nat) : coreStatement "CRC_FEED".toList [n] = (byteField n).map .crcFeed := rfl

theorem coreStatement_rxPush (n : Nat) : coreStatement "RX_PUSH".toList [n] = (byteField n).map .rxPush := rfl

theorem coreStatement_buildRd (a d : Nat) :
    coreStatement "BUILD_RD".toList [a, d] = Option.map₂ .buildRd (wordField a) (wordField d) := by
  rw [coreStatement]
  cases wordField a <;> cases wordField d <;> rfl

theorem coreStatement_buildWr (a d : Nat) :
    coreStatement "BUILD_WR".toList [a, d] = Option.map₂ .buildWr (wordField a) (wordField d) := by
  rw [coreStatement]
  cases wordField a <;> cases wordField d <;> rfl

theorem isSome_map₂ {α β γ : Type} (f : α → β → γ) (x : Option α) (y : Option β) :
    (Option.map₂ f x y).isSome = (x.isSome && y.isSome) := by
  cases x <;> cases y <;> rfl

theorem rawStatement_word40 (w : Nat) :
    rawStatement ".word40".toList [w] = if w < 2 ^ 40 then some (BitVec.ofNat 40 w) else none := by
  simp [rawStatement, fitsField]

/-- The assembler takes what one of the three kinds of statement takes (R88, R89). -/
theorem isSome_assembleStatement (m : List Char) (ops : List Nat) :
    (assembleStatement m ops).isSome =
      ((coreStatement m ops).isSome || (pseudoStatement m ops).isSome || (rawStatement m ops).isSome) := by
  unfold assembleStatement
  cases coreStatement m ops <;> cases pseudoStatement m ops <;> cases rawStatement m ops <;> rfl

/-- A mnemonic that is of a command only. -/
theorem isSome_assembleStatement_of_core {m : List Char} {ops : List Nat} (hpseudo : pseudoStatement m ops = none)
    (hraw : rawStatement m ops = none) : (assembleStatement m ops).isSome = (coreStatement m ops).isSome := by
  rw [isSome_assembleStatement, hpseudo, hraw, Option.isSome_none, Option.isSome_none, Bool.or_false, Bool.or_false]

/-- Settles O46: each mnemonic has one kind of statement, which takes the operands that its fields take. -/
theorem assemblerRejectsOperandsThatDoNotFit : Obligations.AssemblerRejectsOperandsThatDoNotFit := by
  refine ⟨fun n => ?_, fun n => ?_, fun a d => ?_, fun a d => ?_, fun w => ?_⟩
  · rw [isSome_assembleStatement_of_core rfl rfl, coreStatement_crcFeed, Option.isSome_map, isSome_byteField]
  · rw [isSome_assembleStatement_of_core rfl rfl, coreStatement_rxPush, Option.isSome_map, isSome_byteField]
  · rw [isSome_assembleStatement_of_core rfl rfl, coreStatement_buildRd, isSome_map₂, isSome_wordField,
      isSome_wordField, Bool.decide_and]
  · rw [isSome_assembleStatement_of_core rfl rfl, coreStatement_buildWr, isSome_map₂, isSome_wordField,
      isSome_wordField, Bool.decide_and]
  · have hcore : coreStatement ".word40".toList [w] = none := rfl
    have hpseudo : pseudoStatement ".word40".toList [w] = none := rfl
    rw [isSome_assembleStatement, hcore, hpseudo, rawStatement_word40, Bool.eq_iff_iff]
    simp

end Sys2Proof.Machine
end

section
/-! The line of a command is read back part by part (R88, log entry 8): the mnemonic up to the first blank, then the
operands between the commas, each without the blanks around it. -/

namespace Sys2Proof.Machine

/-- A character that is no blank, no comma and no semicolon. -/
abbrev SeparatesNothing (c : Char) : Prop := isBlank c = false ∧ (c == ',') = false ∧ (c != ';') = true

/-- A mnemonic or an operand as it stands in a line: a text in which nothing ends it. -/
abbrev IsPart (cs : List Char) : Prop := cs ≠ [] ∧ ∀ c ∈ cs, SeparatesNothing c

section

variable {x : List Char} {c : Char}

theorem IsPart.ne_nil (hx : IsPart x) : x ≠ [] := hx.1

theorem IsPart.not_blank (hx : IsPart x) (hc : c ∈ x) : isBlank c = false := (hx.2 c hc).1

theorem IsPart.not_comma (hx : IsPart x) (hc : c ∈ x) : (c == ',') = false := (hx.2 c hc).2.1

theorem IsPart.not_semicolon (hx : IsPart x) (hc : c ∈ x) : (c != ';') = true := (hx.2 c hc).2.2

theorem IsPart.reverse (hx : IsPart x) : IsPart x.reverse :=
  ⟨List.reverse_ne_nil_iff.2 hx.ne_nil, fun c hc => hx.2 c (List.mem_reverse.1 hc)⟩

end

theorem isPart_byteText (b : Byte) : IsPart (byteText b) := by
  have hb := b.isLt
  have hhex (n : Nat) (hn : n < 16) : SeparatesNothing (hexChar n) := hexChar_separates_nothing n hn
  refine ⟨by simp [byteText], ?_⟩
  simp only [byteText, List.forall_mem_cons]
  exact ⟨by decide, by decide, hhex _ (by omega), hhex _ (by omega), by simp⟩

theorem isPart_wordText (v : Word16) : IsPart (wordText v) := by
  have hv := v.isLt
  have hhex (n : Nat) (hn : n < 16) : SeparatesNothing (hexChar n) := hexChar_separates_nothing n hn
  refine ⟨by simp [wordText], ?_⟩
  simp only [wordText, List.forall_mem_cons]
  exact ⟨by decide, by decide, hhex _ (by omega), hhex _ (by omega), hhex _ (by omega), hhex _ (by omega), by simp⟩

/-! Blanks. -/

section

variable {x y : List Char}

/-- No blank before a part, so none is dropped. -/
theorem IsPart.dropWhile_isBlank_append (hx : IsPart x) (r : List Char) : (x ++ r).dropWhile isBlank = x ++ r := by
  obtain ⟨c, cs, rfl⟩ := List.exists_cons_of_ne_nil hx.ne_nil
  rw [List.cons_append, List.dropWhile_cons_of_neg (by simp [hx.not_blank (List.mem_cons_self ..)])]

/-- A text that begins and ends with a part has no blank to trim. -/
theorem trimBlanks_between (hx : IsPart x) (r : List Char) (hy : IsPart y) :
    trimBlanks (x ++ (r ++ y)) = x ++ (r ++ y) := by
  have hback : (x ++ (r ++ y)).reverse = y.reverse ++ (x ++ r).reverse := by simp
  rw [trimBlanks, hx.dropWhile_isBlank_append, hback, hy.reverse.dropWhile_isBlank_append, ← hback,
    List.reverse_reverse]

theorem IsPart.trimBlanks_eq (hx : IsPart x) : trimBlanks x = x := by
  have hfront := hx.dropWhile_isBlank_append []
  have hback := hx.reverse.dropWhile_isBlank_append []
  rw [List.append_nil] at hfront hback
  rw [trimBlanks, hfront, hback, List.reverse_reverse]

theorem IsPart.trimBlanks_blank_cons (hx : IsPart x) : trimBlanks (' ' :: x) = x := hx.trimBlanks_eq

/-! Commas. -/

theorem splitCommas_cons {c : Char} (hc : (c == ',') = false) {cs part : List Char} {parts : List (List Char)}
    (h : splitCommas cs = part :: parts) : splitCommas (c :: cs) = (c :: part) :: parts := by
  rw [splitCommas, hc, h]

theorem splitCommas_eq_singleton (hx : ∀ c ∈ x, (c == ',') = false) : splitCommas x = [x] := by
  induction x with
  | nil => rfl
  | cons c cs ih =>
    obtain ⟨hc, hcs⟩ := List.forall_mem_cons.1 hx
    exact splitCommas_cons hc (ih hcs)

theorem splitCommas_append_comma (hx : ∀ c ∈ x, (c == ',') = false) (r : List Char) :
    splitCommas (x ++ ',' :: r) = x :: splitCommas r := by
  induction x with
  | nil => rfl
  | cons c cs ih =>
    obtain ⟨hc, hcs⟩ := List.forall_mem_cons.1 hx
    exact splitCommas_cons hc (ih hcs)

/-- A part after a blank has no comma. -/
theorem IsPart.blank_cons_no_comma (hx : IsPart x) : ∀ c ∈ ' ' :: x, (c == ',') = false :=
  List.forall_mem_cons.2 ⟨rfl, fun _ hc => hx.not_comma hc⟩

/-! Operands. -/

theorem operandValues_cons {n : Nat} {ns : List Nat} {part : List Char} {parts : List (List Char)}
    (hn : operandValue (trimBlanks part) = some n) (hns : operandValues parts = some ns) :
    operandValues (part :: parts) = some (n :: ns) := by
  rw [operandValues, hn, hns]

/-- One operand, after a blank. -/
theorem operandList_one (hx : IsPart x) {n : Nat} (hn : operandValue x = some n) :
    operandList (' ' :: x) = some [n] := by
  have htrim := hx.trimBlanks_blank_cons
  rw [operandList, htrim, if_neg hx.ne_nil, splitCommas_eq_singleton hx.blank_cons_no_comma]
  exact operandValues_cons (htrim.symm ▸ hn) rfl

/-- Two operands, each after a blank. -/
theorem operandList_two (hx : IsPart x) (hy : IsPart y) {n k : Nat} (hn : operandValue x = some n)
    (hk : operandValue y = some k) : operandList (' ' :: (x ++ ',' :: ' ' :: y)) = some [n, k] := by
  have htrim : trimBlanks (' ' :: (x ++ ',' :: ' ' :: y)) = x ++ ([',', ' '] ++ y) :=
    trimBlanks_between hx [',', ' '] hy
  have hsplit : splitCommas (' ' :: (x ++ ',' :: ' ' :: y)) = [' ' :: x, ' ' :: y] := by
    rw [← List.cons_append, splitCommas_append_comma hx.blank_cons_no_comma,
      splitCommas_eq_singleton hy.blank_cons_no_comma]
  rw [operandList, htrim, if_neg (by simp), hsplit]
  exact operandValues_cons (hx.trimBlanks_blank_cons.symm ▸ hn)
    (operandValues_cons (hy.trimBlanks_blank_cons.symm ▸ hk) rfl)

end

/-! The line. -/

/-- A line of a mnemonic, a blank and operands, without comment and without blanks at its ends. -/
theorem assembleLine_of_parts {m r : List Char} {ops : List Nat} (hm : IsPart m)
    (hcomment : ∀ c ∈ r, (c != ';') = true) (htrim : trimBlanks (m ++ ' ' :: r) = m ++ ' ' :: r)
    (hops : operandList (' ' :: r) = some ops) : assembleLine (m ++ ' ' :: r) = assembleStatement m ops := by
  have hbody : (m ++ ' ' :: r).takeWhile (· != ';') = m ++ ' ' :: r :=
    List.takeWhile_eq_self_iff.2
      (List.forall_mem_append.2 ⟨fun _ hc => hm.not_semicolon hc, List.forall_mem_cons.2 ⟨rfl, hcomment⟩⟩)
  have hmnemonic : (m ++ ' ' :: r).takeWhile (fun c => !isBlank c) = m := by
    rw [List.takeWhile_append_of_pos fun c hc => by simp [hm.not_blank hc]]
    simp [isBlank]
  simp only [assembleLine, hbody, htrim, hmnemonic, List.drop_left, hops]
  exact if_neg (by simp)

theorem assembleLine_one {m x : List Char} {n : Nat} (hm : IsPart m) (hx : IsPart x) (hn : operandValue x = some n) :
    assembleLine (m ++ ' ' :: x) = assembleStatement m [n] :=
  assembleLine_of_parts hm (fun _ hc => hx.not_semicolon hc) (trimBlanks_between hm [' '] hx) (operandList_one hx hn)

theorem assembleLine_two {m x y : List Char} {n k : Nat} (hm : IsPart m) (hx : IsPart x) (hy : IsPart y)
    (hn : operandValue x = some n) (hk : operandValue y = some k) :
    assembleLine (m ++ ' ' :: (x ++ ',' :: ' ' :: y)) = assembleStatement m [n, k] := by
  have hcomment : ∀ c ∈ x ++ ',' :: ' ' :: y, (c != ';') = true :=
    List.forall_mem_append.2 ⟨fun _ hc => hx.not_semicolon hc,
      List.forall_mem_cons.2 ⟨rfl, List.forall_mem_cons.2 ⟨rfl, fun _ hc => hy.not_semicolon hc⟩⟩⟩
  have htrim : trimBlanks (m ++ ' ' :: (x ++ ',' :: ' ' :: y)) = m ++ ' ' :: (x ++ ',' :: ' ' :: y) := by
    simpa using trimBlanks_between hm (' ' :: (x ++ [',', ' '])) hy
  exact assembleLine_of_parts hm hcomment htrim (operandList_two hx hy hn hk)

/-- A statement that a command's mnemonic takes is that command. -/
theorem assembleStatement_of_coreStatement {m : List Char} {ops : List Nat} {i : Instr}
    (h : coreStatement m ops = some i) : assembleStatement m ops = some [encode i] := by
  rw [assembleStatement, h]

/-- A line of a command with a byte operand. -/
theorem assembleLine_byteText {m : List Char} (hm : IsPart m) {mk : Byte → Instr}
    (hcore : ∀ n, coreStatement m [n] = (byteField n).map mk) (b : Byte) :
    assembleLine (m ++ ' ' :: byteText b) = some [encode (mk b)] := by
  rw [assembleLine_one hm (isPart_byteText b) (operandValue_byteText b)]
  exact assembleStatement_of_coreStatement (by rw [hcore, byteField_toNat, Option.map_some])

/-- A line of a command with two 16-bit operands. -/
theorem assembleLine_wordText {m : List Char} (hm : IsPart m) {mk : Word16 → Word16 → Instr}
    (hcore : ∀ n k, coreStatement m [n, k] = Option.map₂ mk (wordField n) (wordField k)) (a d : Word16) :
    assembleLine (m ++ ' ' :: (wordText a ++ ',' :: ' ' :: wordText d)) = some [encode (mk a d)] := by
  rw [assembleLine_two hm (isPart_wordText a) (isPart_wordText d) (operandValue_wordText a) (operandValue_wordText d)]
  exact assembleStatement_of_coreStatement
    (by rw [hcore, wordField_toNat, wordField_toNat, Option.map₂_some_some])

/-- The mnemonics of the commands with operands. -/
theorem isPart_mnemonic : ∀ m ∈ ["CRC_FEED", "BUILD_RD", "BUILD_WR", "RX_PUSH"], IsPart m.toList := by
  simp [IsPart, SeparatesNothing, isBlank]

/-- Settles O45, by the shape of the command's line: a mnemonic alone, with a byte, or with two 16-bit values. -/
theorem assembledLineIsTheCommandsWord : Obligations.AssembledLineIsTheCommandsWord := by
  intro i
  cases i with
  | crcInit => rfl
  | crcFeed b => exact assembleLine_byteText (isPart_mnemonic "CRC_FEED" (by simp)) coreStatement_crcFeed b
  | buildRd a d => exact assembleLine_wordText (isPart_mnemonic "BUILD_RD" (by simp)) coreStatement_buildRd a d
  | buildWr a d => exact assembleLine_wordText (isPart_mnemonic "BUILD_WR" (by simp)) coreStatement_buildWr a d
  | rxClear => rfl
  | rxPush b => exact assembleLine_byteText (isPart_mnemonic "RX_PUSH" (by simp)) coreStatement_rxPush b
  | decReady => rfl
  | decMeas => rfl

end Sys2Proof.Machine
end

section
/-! The generator run over a message by the machine's own steps, and over a message with its own CRC
(R89, R134 to R136, R139). -/

namespace Sys2Proof.Machine

@[simp] theorem State.crcResult_setCrc (s : State) (c : CrcPair) : (s.setCrc c).crcResult = c.h ++ c.l := rfl

/-- One CRC_FEED per byte, run by the machine's own steps. -/
theorem runSteps_crcFeed {bytes : List Byte} {s : State} {rest : List PortSample}
    (hi : s.inputs = commandSamples (bytes.map .crcFeed) ++ rest) :
    runSteps bytes.length s = .next ((s.setInputs rest).setCrc (bytes.foldl CrcPair.feed s.crc)) := by
  induction bytes generalizing s with
  | nil =>
    obtain rfl : s.inputs = rest := hi
    rfl
  | cons b bytes ih =>
    rw [List.length_cons, runSteps_commandSamples_cons _ hi (exec_crcFeed b _), ih rfl]
    rfl

/-- The words of CRC_MSG, run by the machine's own steps. -/
theorem runSteps_crcMsg {bytes : List Byte} {s : State} {rest : List PortSample}
    (hi : s.inputs = commandSamples (Pseudo.crcMsg bytes).expand ++ rest) :
    runSteps (bytes.length + 1) s = .next ((s.setInputs rest).setCrc (crcOfBytes bytes)) := by
  rw [runSteps_commandSamples_cons _ hi (exec_crcInit _), runSteps_crcFeed rfl]
  rfl

/-- Fed its own high running byte, the generator looks up entry 0 of both tables: the low byte moves up. -/
theorem CrcPair.feed_own_h (c : CrcPair) : c.feed c.h = ⟨c.l, 0x00#8⟩ := by simp [CrcPair.feed]

theorem CrcPair.feed_own_bytes (c : CrcPair) : (c.feed c.h).feed c.l = ⟨0x00#8, 0x00#8⟩ := by
  simpa [c.feed_own_h] using CrcPair.feed_own_h ⟨c.l, 0x00#8⟩

/-- A message followed by its own two CRC bytes in wire order leaves 0x00 in both running bytes (R139). -/
theorem crcOfBytes_append_own_crc (bytes : List Byte) :
    crcOfBytes (bytes ++ [(crcOfBytes bytes).h, (crcOfBytes bytes).l]) = ⟨0x00#8, 0x00#8⟩ :=
  (crcOfBytes_append _ _).trans (crcOfBytes bytes).feed_own_bytes

end Sys2Proof.Machine
end

section
/-! The two BUILD commands: their words, the frame they write, and what they leave unchanged (R110 to R114). -/

namespace Sys2Proof.Machine

/-- The words of a BUILD command: its row fixes `OP` and `Z`, and the operands are the bits left. -/
theorem packWord_eq_iff_build (op : BitVec 4) (a d : Word16) (c : Cmd40) :
    packWord op a d = c ↔ c &&& 0xFF00000000#40 = packWord op 0 0 ∧ a = aOf c ∧ d = dOf c := by
  constructor
  · rintro rfl
    refine ⟨?_, (aOf_packWord op a d).symm, (dOf_packWord op a d).symm⟩
    have hmasked : ∀ op : BitVec 4, op ++ 0#36 = packWord op 0 0 := by decide
    exact (Laws.RowMatch.buildWord_masked op a d).trans (hmasked op)
  · rintro ⟨hrow, rfl, rfl⟩
    exact packWord_eq_of_admits_build (beq_iff_eq.2 hrow)

/-- A build changes `TX` and the running bytes only (R111). -/
theorem State.build_onlyWrites (s : State) (fc : Byte) (a d : Word16) :
    OnlyWrites [.tx, .crcH, .crcL] s (s.build fc a d) := by
  simp [onlyWrites_iff]

section

variable {fc : Byte} {a d : Word16} {i : Instr} {s t : State}

theorem exec_build_tx (hi : (fc = 0x03#8 ∧ i = .buildRd a d) ∨ (fc = 0x06#8 ∧ i = .buildWr a d))
    (h : exec i s = .next t) : t.tx = requestFrame fc a d :=
  (exec_build_registers hi h).1

theorem exec_build_crcResult (hi : (fc = 0x03#8 ∧ i = .buildRd a d) ∨ (fc = 0x06#8 ∧ i = .buildWr a d))
    (h : exec i s = .next t) : t.crcResult = (frameCrc fc a d).h ++ (frameCrc fc a d).l := by
  obtain ⟨-, hh, hl⟩ := exec_build_registers hi h
  rw [State.crcResult, hh, hl]

end

/-- Settles O28: the words by the opcode's row, the effect by the equation of the build, and the rule's examples by
running the generator on them. -/
theorem buildRdWritesTheRequestFrame : Obligations.BuildRdWritesTheRequestFrame := by
  refine ⟨fun c a d => ?_, fun a d s => ?_, fun s t => ⟨fun h => ?_, fun h => ?_, fun h => ⟨?_, ?_⟩⟩⟩
  · exact (decode_eq_ok_iff c _).trans (packWord_eq_iff_build 0x3#4 a d c)
  · exact ⟨s.build 0x03#8 a d, rfl, ⟨frameCrc 0x03#8 a d, rfl, rfl, rfl, rfl⟩, rfl, s.build_onlyWrites _ a d⟩
  · exact (exec_build_tx (.inl ⟨rfl, rfl⟩) h).trans (by decide)
  · exact (exec_build_tx (.inl ⟨rfl, rfl⟩) h).trans (by decide)
  · exact (exec_build_tx (.inl ⟨rfl, rfl⟩) h).trans (by decide)
  · exact (exec_build_crcResult (.inl ⟨rfl, rfl⟩) h).trans (by decide)

/-- Settles O29, as O28 with the opcode and the function code of BUILD_WR. -/
theorem buildWrWritesTheRequestFrame : Obligations.BuildWrWritesTheRequestFrame := by
  refine ⟨fun c a d => ?_, fun a d s => ?_, fun s t => ⟨fun h => ?_, fun h => ?_, fun h => ⟨?_, ?_⟩⟩⟩
  · exact (decode_eq_ok_iff c _).trans (packWord_eq_iff_build 0x4#4 a d c)
  · exact ⟨s.build 0x06#8 a d, rfl, ⟨frameCrc 0x06#8 a d, rfl, rfl, rfl, rfl⟩, rfl, s.build_onlyWrites _ a d⟩
  · exact (exec_build_tx (.inr ⟨rfl, rfl⟩) h).trans (by decide)
  · exact (exec_build_tx (.inr ⟨rfl, rfl⟩) h).trans (by decide)
  · exact (exec_build_tx (.inr ⟨rfl, rfl⟩) h).trans (by decide)
  · exact (exec_build_crcResult (.inr ⟨rfl, rfl⟩) h).trans (by decide)

/-- The opcode of a BUILD command picks its function code (D7). -/
theorem exists_functionCode_of_build {a d : Word16} {i : Instr} (hi : i = .buildRd a d ∨ i = .buildWr a d) :
    ∃ fc : Byte, (fc = 0x03#8 ∧ i = .buildRd a d) ∨ (fc = 0x06#8 ∧ i = .buildWr a d) := by
  rcases hi with hrd | hwr
  · exact ⟨0x03#8, .inl ⟨rfl, hrd⟩⟩
  · exact ⟨0x06#8, .inr ⟨rfl, hwr⟩⟩

/-- A frame is a message followed by its own CRC in wire order, so its residue is 0x0000. -/
theorem crcOfBytes_requestFrame (fc : Byte) (a d : Word16) :
    crcOfBytes (requestFrame fc a d).toList = ⟨0x00#8, 0x00#8⟩ :=
  crcOfBytes_append_own_crc (frameHead fc a d)

/-- Settles O32: the nine steps run the generator over the frame from the seed. -/
theorem builtFrameChecksToResidueZero : Obligations.BuiltFrameChecksToResidueZero := by
  intro a d i s t rest hi h hinputs
  obtain ⟨fc, hfc⟩ := exists_functionCode_of_build hi
  have hresidue : crcOfBytes t.tx.toList = ⟨0x00#8, 0x00#8⟩ := by
    rw [exec_build_tx hfc h, crcOfBytes_requestFrame]
  refine ⟨(t.setInputs rest).setCrc (crcOfBytes t.tx.toList), runSteps_crcMsg hinputs, ?_⟩
  rw [State.crcResult_setCrc, hresidue]
  decide

/-- Settles O31: what either state ends with is the frame and the CRC of the function code and the operands. -/
theorem buildDependsOnItsOperandsOnly : Obligations.BuildDependsOnItsOperandsOnly := by
  intro a d i s s' hi
  obtain ⟨fc, hfc⟩ := exists_functionCode_of_build hi
  obtain ⟨t, h⟩ := exec_answersNext i s
  obtain ⟨t', h'⟩ := exec_answersNext i s'
  obtain ⟨htx, hh, hl⟩ := exec_build_registers hfc h
  obtain ⟨htx', hh', hl'⟩ := exec_build_registers hfc h'
  exact ⟨t, t', h, h', htx.trans htx'.symm, hh.trans hh'.symm, hl.trans hl'.symm, rfl⟩

end Sys2Proof.Machine
end

section
/-! The CRC generator: its tables, its two commands, and a message run through it (R131 to R139). -/

namespace Sys2Proof.Machine

/-! A message by the machine's own steps. -/

/-- Settles O26: the steps run the generator over the message from the seed, and one byte of the generator is one byte
of the table-free algorithm. -/
theorem messageCrcIsTableFreeModbusCrc : Obligations.MessageCrcIsTableFreeModbusCrc := by
  intro bytes s rest hi
  have hframe : OnlyWrites [.crcH, .crcL, .inputs] s ((s.setInputs rest).setCrc (crcOfBytes bytes)) := by
    simp [onlyWrites_iff]
  exact ⟨_, runSteps_crcMsg hi, standard_crcOfBytes bytes, rfl, hframe⟩

/-- The one state that the words of CRC_MSG can end in. -/
theorem eq_of_runSteps_crcMsg {bytes : List Byte} {s t : State} {rest : List PortSample}
    (hi : s.inputs = commandSamples (Pseudo.crcMsg bytes).expand ++ rest)
    (h : runSteps (bytes.length + 1) s = .next t) : t = (s.setInputs rest).setCrc (crcOfBytes bytes) := by
  rw [runSteps_crcMsg hi] at h
  cases h
  rfl

/-- Settles O27: the running bytes that the first message leaves are its own CRC, which takes the generator to 0. -/
theorem messageWithItsCrcHasResidueZero : Obligations.MessageWithItsCrcHasResidueZero := by
  intro bytes s s' t t' rest rest' hi h hi' h'
  obtain rfl := eq_of_runSteps_crcMsg hi h
  have ht' : t' = (s'.setInputs rest').setCrc ⟨0x00#8, 0x00#8⟩ := by
    rw [eq_of_runSteps_crcMsg (t := t') hi' (by simpa using h'), State.setCrc_crcH, State.setCrc_crcL,
      crcOfBytes_append_own_crc]
  rw [ht', State.crcResult_setCrc]
  exact ⟨rfl, rfl, by decide⟩

/-! The two commands. -/

/-- Of the commands only CRC_INIT has the opcode 0x1 (R82). -/
theorem eq_crcInit_of_opOf_encode {i : Instr} (h : opOf (encode i) = 0x1#4) : i = .crcInit := by
  cases i <;> simp [encode] at h ⊢

/-- Of two pairs of running bytes written, the last stays. -/
@[simp] theorem State.setCrc_setCrc (s : State) (c c' : CrcPair) : (s.setCrc c).setCrc c' = s.setCrc c' := rfl

/-- New running bytes change the running bytes only (R22, R23). -/
theorem State.setCrc_onlyWrites (s : State) (c : CrcPair) : OnlyWrites [.crcH, .crcL] s (s.setCrc c) := by
  simp [onlyWrites_iff]

/-- Settles O22: the words by the encoding, the effect by the equation of the command. -/
theorem crcInitSeedsTheGenerator : Obligations.CrcInitSeedsTheGenerator := by
  have hword : encode .crcInit = 0x1000000000#40 := by decide
  refine ⟨fun c => ?_, fun c hop hne => ?_, fun s => ?_⟩
  · rw [decode_eq_ok_iff, hword, eq_comm]
  · refine (undefined_of_forall_encode_ne fun i hi => hne ?_).1
    obtain rfl : i = .crcInit := eq_crcInit_of_opOf_encode (hi ▸ hop)
    exact hi.symm.trans hword
  · exact ⟨s.setCrc CrcPair.seed, exec_crcInit s, rfl, rfl, (s.crcResult_setCrc _).trans (by decide),
      s.setCrc_onlyWrites _, by rw [exec_crcInit, State.setCrc_setCrc]⟩

/-- The fixed bits of a word with a byte operand. -/
theorem byteWord_masked (op : BitVec 4) (b : Byte) :
    packWord op 0 (0x00#8 ++ b) &&& 0xFFFFFFFF00#40 = packWord op 0 0 := by
  apply BitVec.eq_of_getLsbD_eq
  intro i hi
  simp only [packWord, BitVec.getLsbD_and, BitVec.getLsbD_append]
  interval_cases i <;> simp

/-- The words of a command with a byte operand: its row fixes all but the low byte, which is the operand. -/
theorem packWord_eq_iff_byte (op : BitVec 4) (b : Byte) (c : Cmd40) :
    packWord op 0 (0x00#8 ++ b) = c ↔ c &&& 0xFFFFFFFF00#40 = packWord op 0 0 ∧ b = bOf c := by
  constructor
  · rintro rfl
    exact ⟨byteWord_masked op b, (bOf_packWord_byte op 0 b).symm⟩
  · rintro ⟨hrow, rfl⟩
    exact packWord_eq_of_admits_byte (beq_iff_eq.2 hrow)

/-- What the output `CRC_RESULT` shows after a byte fed from the seed (R24, R135). -/
theorem crcResult_of_exec_crcFeed_of_seed {b : Byte} {s t : State} (hs : s.crc = CrcPair.seed)
    (h : exec (.crcFeed b) s = .next t) : t.crcResult = (CrcPair.seed.feed b).h ++ (CrcPair.seed.feed b).l := by
  rw [exec_crcFeed, hs] at h
  cases h
  rfl

/-- Settles O23: the words by the opcode's row, the effect by the equation of the command, and the rule's examples by
running the generator on them. -/
theorem crcFeedStepsTheGenerator : Obligations.CrcFeedStepsTheGenerator := by
  refine ⟨fun c b => ?_, fun b s => ?_, fun s t hh hl => ?_, by decide, by decide⟩
  · exact (decode_eq_ok_iff c _).trans (packWord_eq_iff_byte 0x2#4 b c)
  · exact ⟨s.setCrc (s.crc.feed b), exec_crcFeed b s, rfl, rfl, s.setCrc_onlyWrites _⟩
  · have hseed : s.crc = CrcPair.seed := by
      rw [State.crc, hh, hl]
      rfl
    refine ⟨fun h => ?_, fun h => ?_, fun h => ?_⟩
    · exact (crcResult_of_exec_crcFeed_of_seed hseed h).trans (by decide)
    · exact (crcResult_of_exec_crcFeed_of_seed hseed h).trans (by decide)
    · exact (crcResult_of_exec_crcFeed_of_seed hseed h).trans (by decide)

/-! The tables. -/

/-- Settles O24: the entry `T(i)` is the two tables' bytes side by side. -/
theorem crcTablesComeFromTheGenerator : Obligations.CrcTablesComeFromTheGenerator := by
  intro i
  rw [crcEntry_eq_tables]
  exact ⟨BitVec.extractLsb'_append_eq_right.symm, BitVec.extractLsb'_append_eq_left.symm⟩

/-- Settles O25, entry by entry of the printed table. -/
theorem crcHighTableHasEightValues : Obligations.CrcHighTableHasEightValues := by
  unfold Obligations.CrcHighTableHasEightValues
  decide

end Sys2Proof.Machine
end

section
/-! Big-endian blocks: four bytes joined, a value taken apart into its bytes, and the CO2 register (R155 to R157). -/

namespace Sys2Proof.Machine

section

variable (b0 b1 b2 b3 : Byte)

/-- The block is its high word joined with its low word (R155). -/
theorem be32_eq_append_be16 : be32 b0 b1 b2 b3 = be16 b0 b1 ++ be16 b2 b3 := BitVec.append_assoc

@[simp] theorem be32_byte0 : (be32 b0 b1 b2 b3).extractLsb' 24 8 = b0 := by
  rw [be32_eq_append_be16, BitVec.extractLsb'_append_eq_of_le (by decide)]
  exact BitVec.extractLsb'_append_eq_left

@[simp] theorem be32_byte1 : (be32 b0 b1 b2 b3).extractLsb' 16 8 = b1 := by
  rw [be32_eq_append_be16, BitVec.extractLsb'_append_eq_of_le (by decide)]
  exact BitVec.extractLsb'_append_eq_right

@[simp] theorem be32_byte2 : (be32 b0 b1 b2 b3).extractLsb' 8 8 = b2 := by
  rw [be32_eq_append_be16, BitVec.extractLsb'_append_eq_of_add_le (by decide)]
  exact BitVec.extractLsb'_append_eq_left

@[simp] theorem be32_byte3 : (be32 b0 b1 b2 b3).extractLsb' 0 8 = b3 := BitVec.extractLsb'_append_eq_right

/-- The upper half of the block is dropped (R157). -/
@[simp] theorem truncCo2_be32 : truncCo2 (be32 b0 b1 b2 b3) = b2 ++ b3 := by
  rw [be32_eq_append_be16]
  exact BitVec.extractLsb'_append_eq_right

end

/-- A 16-bit value is its two bytes joined. -/
theorem append_bytes_of_word16 (v : Word16) : v.extractLsb' 8 8 ++ v.extractLsb' 0 8 = v :=
  (BitVec.extractLsb'_append_extractLsb'_eq_extractLsb' rfl).trans BitVec.extractLsb'_eq_self

/-- A 32-bit value is its four bytes joined (R155, R156). -/
theorem be32_bytes_of_word32 (v : Word32) :
    be32 (v.extractLsb' 24 8) (v.extractLsb' 16 8) (v.extractLsb' 8 8) (v.extractLsb' 0 8) = v := by
  have hhi : v.extractLsb' 24 8 ++ v.extractLsb' 16 8 = v.extractLsb' 16 16 :=
    BitVec.extractLsb'_append_extractLsb'_eq_extractLsb' rfl
  have hlo : v.extractLsb' 8 8 ++ v.extractLsb' 0 8 = v.extractLsb' 0 16 :=
    BitVec.extractLsb'_append_extractLsb'_eq_extractLsb' rfl
  rw [be32_eq_append_be16, be16, be16, hhi, hlo]
  exact (BitVec.extractLsb'_append_extractLsb'_eq_extractLsb' rfl).trans BitVec.extractLsb'_eq_self

/-- Settles O38, byte by byte of the block. -/
theorem bigEndianJoinPutsFirstByteHighest : Obligations.BigEndianJoinPutsFirstByteHighest := fun b0 b1 b2 b3 =>
  ⟨be32_byte0 b0 b1 b2 b3, be32_byte1 b0 b1 b2 b3, be32_byte2 b0 b1 b2 b3, be32_byte3 b0 b1 b2 b3,
    be32_eq_append_be16 b0 b1 b2 b3⟩

end Sys2Proof.Machine
end

section
/-! The receive buffer's two commands: their words, what they do, and what they leave unchanged (R151, R152). -/

namespace Sys2Proof.Machine

/-- A command without operands has one word. -/
theorem decode_eq_ok_iff_eq_word {i : Instr} {w : Cmd40} (hword : encode i = w) (c : Cmd40) :
    decode c = .ok i ↔ c = w := by
  rw [decode_eq_ok_iff, hword, eq_comm]

/-- Settles O33: the word by the encoding, the effect by the equation of the command. -/
theorem rxClearEmptiesTheSequence : Obligations.RxClearEmptiesTheSequence := by
  refine ⟨decode_eq_ok_iff_eq_word (by decide), fun s => ?_⟩
  have h := exec_rxClear s
  exact ⟨_, h, rfl, rfl, rfl, exec_onlyWrites h⟩

/-- Settles O34: the words by the opcode's row, the effect by whether there is room. -/
theorem rxPushAppendsOrOverflows : Obligations.RxPushAppendsOrOverflows := by
  refine ⟨fun c b => (decode_eq_ok_iff c _).trans (packWord_eq_iff_byte 0x6#4 b c), fun b s hroom => ?_,
    fun b s hfull => ?_⟩
  · have h : exec (.rxPush b) s = .next (s.setRx (s.rx ++ [b])) := by
      rw [exec_rxPush, State.pushRx_of_room hroom]
    exact ⟨_, h, rfl, List.length_append, by simp [onlyWrites_iff]⟩
  · have h : exec (.rxPush b) s = .next (s.raiseFlag .rxovf) := by
      rw [exec_rxPush, State.pushRx_of_full hfull]
    exact ⟨_, h, rfl, by simp [onlyWrites_iff]⟩

end Sys2Proof.Machine
end

section
/-! The response decoder: what DEC_READY and DEC_MEAS read of the receive sequence, and that each run twice is the same
as run once (R150, R153, R154, R159). -/

namespace Sys2Proof.Machine

/-! DEC_READY. -/

/-- The ready flag is the fifth byte, whole (R153). -/
theorem State.readyDecoded_iff (s : State) : s.readyDecoded = true ↔ s.rx[4]? = some 0x01#8 := by
  rw [State.readyDecoded, Bool.and_eq_true, decide_eq_true_iff, beq_iff_eq, Config.readyIndex]
  constructor
  · rintro ⟨hlen, hbyte⟩
    rw [s.rx_getElem?_of_lt hlen, hbyte]
  · intro hbyte
    obtain ⟨hlen, -⟩ := List.getElem?_eq_some_iff.1 hbyte
    exact ⟨hlen, Option.some.inj ((s.rx_getElem?_of_lt hlen).symm.trans hbyte)⟩

/-- Settles O36: the word by the encoding; the response that READY is decoded from stays, so twice is as once. -/
theorem decReadyTestsTheFifthByte : Obligations.DecReadyTestsTheFifthByte := by
  refine ⟨decode_eq_ok_iff_eq_word (by decide), fun s => ?_⟩
  have h := exec_decReady s
  have hbyte : s.readyDecoded = true ↔ 5 ≤ s.rx.length ∧ s.rx[4]? = some 0x01#8 := by
    rw [s.readyDecoded_iff]
    exact ⟨fun hb => ⟨(List.getElem?_eq_some_iff.1 hb).1, hb⟩, And.right⟩
  exact ⟨_, h, hbyte, exec_onlyWrites h, rfl⟩

/-! The Reading that a response decodes to. -/

/-- CO2 is the bytes 5 and 6 (R157). -/
theorem State.readingDecoded_co2 (s : State) : s.readingDecoded.co2 = s.rxByte 5 ++ s.rxByte 6 :=
  truncCo2_be32 _ _ _ _

/-- A Reading by the three blocks behind a header of three bytes (R154). -/
theorem State.readingDecoded_of_rx {s : State} {header tail : List Byte}
    {c0 c1 c2 c3 t0 t1 t2 t3 h0 h1 h2 h3 : Byte} (hheader : header.length = 3)
    (h : s.rx = header ++ [c0, c1, c2, c3, t0, t1, t2, t3, h0, h1, h2, h3] ++ tail) :
    s.readingDecoded = ⟨c2 ++ c3, be32 t0 t1 t2 t3, be32 h0 h1 h2 h3⟩ := by
  obtain ⟨x, y, z, rfl⟩ := List.length_eq_three.1 hheader
  simp [State.readingDecoded, State.rxBlock, State.rxByte, h]

/-- Responses that agree at the bytes 3 to 14 decode to the same Reading (R150). -/
theorem State.readingDecoded_congr {s s' : State} (h : ∀ k, 3 ≤ k → k ≤ 14 → s.rx[k]? = s'.rx[k]?) :
    s.readingDecoded = s'.readingDecoded := by
  have hbyte (k : Nat) (h3 : 3 ≤ k) (h14 : k ≤ 14) : s.rxByte k = s'.rxByte k := by
    rw [State.rxByte, State.rxByte, List.getD_eq_getElem?_getD, List.getD_eq_getElem?_getD, h k h3 h14]
  have hblock (k : Nat) (h3 : 3 ≤ k) (h11 : k ≤ 11) : s.rxBlock k = s'.rxBlock k := by
    rw [State.rxBlock, State.rxBlock, hbyte k h3 (by omega), hbyte (k + 1) (by omega) (by omega),
      hbyte (k + 2) (by omega) (by omega), hbyte (k + 3) (by omega) (by omega)]
  rw [State.readingDecoded, State.readingDecoded, hblock 3 (by decide) (by decide), hblock 7 (by decide) (by decide),
    hblock 11 (by decide) (by decide)]

/-! DEC_MEAS. -/

/-- A flag raised stays raised. -/
@[simp] theorem State.raiseFlag_raiseFlag (s : State) (f : Flag) : (s.raiseFlag f).raiseFlag f = s.raiseFlag f := by
  simp [State.raiseFlag, State.setStatus, BitVec.or_assoc]

/-- A flag cleared stays cleared. -/
@[simp] theorem State.clearFlag_clearFlag (s : State) (f : Flag) : (s.clearFlag f).clearFlag f = s.clearFlag f := by
  simp [State.clearFlag, State.setStatus, BitVec.and_assoc]

section

variable {s t : State}

/-- DEC_MEAS of a short response. -/
theorem exec_decMeas_of_short (hshort : s.rx.length < 15) : exec .decMeas s = .next (s.raiseFlag .incomplete) := by
  rw [exec_decMeas, State.decodeMeas_of_short hshort]

/-- DEC_MEAS of a response that is long enough. -/
theorem exec_decMeas_of_long (hlong : 15 ≤ s.rx.length) :
    exec .decMeas s = .next ((s.setReading s.readingDecoded).clearFlag .incomplete) := by
  rw [exec_decMeas, State.decodeMeas_of_long hlong]

/-- The three registers after DEC_MEAS of a response that is long enough. -/
theorem reading_of_exec_decMeas (hlong : 15 ≤ s.rx.length) (h : exec .decMeas s = .next t) :
    t.measCo2 = s.readingDecoded.co2 ∧ t.measTemp = s.readingDecoded.temp ∧ t.measHum = s.readingDecoded.hum := by
  rw [exec_decMeas_of_long hlong] at h
  cases h
  exact ⟨rfl, rfl, rfl⟩

/-- DEC_MEAS leaves the response it decodes, so from there it has nothing to change. -/
theorem exec_decMeas_again (h : exec .decMeas s = .next t) : exec .decMeas t = .next t := by
  rcases Nat.lt_or_ge s.rx.length 15 with hshort | hlong
  · rw [exec_decMeas_of_short hshort] at h
    cases h
    rw [exec_decMeas_of_short (s := s.raiseFlag .incomplete) hshort, State.raiseFlag_raiseFlag]
  · rw [exec_decMeas_of_long hlong] at h
    cases h
    have hagain := exec_decMeas_of_long (s := (s.setReading s.readingDecoded).clearFlag .incomplete) hlong
    exact hagain.trans (congrArg _ ((s.setReading s.readingDecoded).clearFlag_clearFlag .incomplete))

end

/-- Settles O37: the word by the encoding, the effect by whether there are 15 bytes. -/
theorem decMeasDecodesOrReportsIncomplete : Obligations.DecMeasDecodesOrReportsIncomplete := by
  refine ⟨decode_eq_ok_iff_eq_word (by decide), fun s hshort => ?_, ?_⟩
  · have h := exec_decMeas_of_short hshort
    exact ⟨_, h, rfl, by simp [onlyWrites_iff], exec_decMeas_again h⟩
  · intro s b0 b1 b2 b3 b4 b5 b6 b7 b8 b9 b10 b11 b12 b13 b14 tail hrx
    have hlong : 15 ≤ s.rx.length := by simp [hrx]
    have hreading : s.readingDecoded = ⟨b5 ++ b6, be32 b7 b8 b9 b10, be32 b11 b12 b13 b14⟩ :=
      State.readingDecoded_of_rx (header := [b0, b1, b2]) rfl hrx
    have h := exec_decMeas_of_long hlong
    rw [hreading] at h
    exact ⟨_, h, rfl, rfl, rfl, rfl, by simp [onlyWrites_iff], exec_decMeas_again h⟩

/-- Settles O39: the truncation of any block, the register after DEC_MEAS, and the rule's boundary values. -/
theorem co2IsTheLowHalfOfItsBlock : Obligations.Co2IsTheLowHalfOfItsBlock := by
  refine ⟨truncCo2_be32, fun s t hlong h => ?_, by decide, by decide, by decide, by decide, by decide⟩
  obtain ⟨hco2, -, -⟩ := reading_of_exec_decMeas hlong h
  exact hco2.trans s.readingDecoded_co2

/-- Settles O40: each block is a value's own bytes joined again. -/
theorem encodedReadingDecodesToItself : Obligations.EncodedReadingDecodesToItself := by
  intro co2 upper temp hum header tail s hheader hrx
  have hlong : 15 ≤ s.rx.length := by
    simp only [hrx, List.length_append, hheader, List.length_cons]
    omega
  have hreading : s.readingDecoded = ⟨co2, temp, hum⟩ := by
    rw [State.readingDecoded_of_rx hheader hrx, append_bytes_of_word16, be32_bytes_of_word32, be32_bytes_of_word32]
  have h := exec_decMeas_of_long hlong
  rw [hreading] at h
  exact ⟨_, h, rfl, rfl, rfl, by simp⟩

/-- Settles O41: both results are read from the bytes that the responses agree at. -/
theorem decodersIgnoreHeaderAndTrailer : Obligations.DecodersIgnoreHeaderAndTrailer := by
  refine ⟨fun s s' t t' hlong hlong' hagree h h' => ?_, fun s s' t t' hagree h h' => ?_⟩
  · obtain ⟨hco2, htemp, hhum⟩ := reading_of_exec_decMeas hlong h
    obtain ⟨hco2', htemp', hhum'⟩ := reading_of_exec_decMeas hlong' h'
    rw [hco2, htemp, hhum, hco2', htemp', hhum', State.readingDecoded_congr hagree]
    exact ⟨rfl, rfl, rfl⟩
  · cases h
    cases h'
    exact Bool.eq_iff_iff.2 (by simp [State.readyDecoded_iff, hagree])

/-- Settles O42: neither decoder writes `RX`, and of the commands that do only RX_CLEAR leaves it without a byte. -/
theorem decodersKeepTheResponse : Obligations.DecodersKeepTheResponse := by
  refine ⟨fun i s t hi h => ?_, fun i s t h hne hempty => ?_⟩
  · have hrx : t.rx = s.rx := exec_onlyWrites h .rx (by rcases hi with rfl | rfl <;> simp)
    exact ⟨hrx, congrArg List.length hrx⟩
  · have hchanged : ¬ Reg.rx.Same s t := fun hsame : t.rx = s.rx => hne (hsame.symm.trans hempty)
    rcases (rx_mem_writtenBy i s).1 (mem_writtenBy_of_changed h hchanged) with hclear | ⟨⟨b, rfl⟩, hroom⟩
    · exact hclear
    · rw [exec_rxPush, State.pushRx_of_room hroom] at h
      cases h
      exact absurd hempty (by simp)

end Sys2Proof.Machine
end

section
/-! Runs without reset: ILLEGAL stands once a word is undefined, and until then it stays as it was (R83, R205). -/

namespace Sys2Proof.Machine

/-- A word is defined or undefined, and not both (R83). -/
theorem exists_decode_ok_iff (c : Cmd40) : (∃ i, decode c = .ok i) ↔ ¬ ∃ e, decode c = .error e := by
  cases decode c with
  | ok i => simp
  | error e => simp

/-- A step without reset leaves ILLEGAL clear where it was clear and the word issued, if any, is defined. -/
theorem step_illegal_clear_iff {s t : State} {p : PortSample} {rest : List PortSample} (hi : s.inputs = p :: rest)
    (hr : p.rst = false) (h : step s = .next t) :
    t.flag .illegal = false ↔
      s.flag .illegal = false ∧ (p.cmdValid = true → ∃ i, decode p.cmd = .ok i) := by
  rw [← Bool.not_eq_true, step_illegal_iff h, ranUndefined_iff hi, wasReset_iff hi, exists_decode_ok_iff]
  simp [hr, and_comm]

/-- The first step of a run is taken, and the run goes on from there. -/
theorem exists_step_of_runSteps_succ {n : Nat} {s t : State} (h : runSteps (n + 1) s = .next t) :
    ∃ u, step s = .next u ∧ runSteps n u = .next t := by
  obtain ⟨u, hu⟩ := stepAlwaysAnswersNext s
  rw [runSteps, hu] at h
  exact ⟨u, hu, h⟩

/-- A run without reset leaves ILLEGAL clear where it was clear and every word issued is defined. -/
theorem runSteps_illegal_clear_iff {n : Nat} {s t : State} (h : runSteps n s = .next t)
    (hreset : ∀ p ∈ s.inputs.take n, p.rst = false) :
    t.flag .illegal = false ↔
      s.flag .illegal = false ∧ ∀ p ∈ s.inputs.take n, p.cmdValid = true → ∃ i, decode p.cmd = .ok i := by
  induction n generalizing s with
  | zero =>
    cases h
    simp
  | succ n ih =>
    obtain ⟨u, hu, hrun⟩ := exists_step_of_runSteps_succ h
    obtain ⟨hinputs, -⟩ := stepTakesOneSampleInOrder s u hu
    cases hi : s.inputs with
    | nil =>
      have hheld : u = s := by simpa [step_of_inputs_nil hi] using hu.symm
      subst hheld
      simpa [hi] using ih hrun
    | cons p rest =>
      rw [hi, List.tail_cons] at hinputs
      rw [hi, List.take_succ_cons, List.forall_mem_cons] at hreset
      obtain ⟨hr, hrest⟩ := hreset
      rw [ih hrun (hinputs ▸ hrest), step_illegal_clear_iff hi hr hu, hinputs, List.take_succ_cons,
        List.forall_mem_cons, and_assoc]

/-- Settles O21: the run's equivalence, where ILLEGAL is clear at its start. -/
theorem illegalClearMeansEveryWordWasDefined : Obligations.IllegalClearMeansEveryWordWasDefined := by
  intro n s t h hclear hreset
  simp [runSteps_illegal_clear_iff h hreset, hclear]

end Sys2Proof.Machine
end

section
/-! One step does one thing: it is a reset or executes one word, so at most one flag is raised by it and a set flag is
cleared by its own cause only (R203, R205, R232). -/

namespace Sys2Proof.Machine

section

variable {s t : State}

theorem WasIssued.unique {c c' : Cmd40} (h : WasIssued s c) (h' : WasIssued s c') : c = c' := by
  obtain ⟨p, rest, hi, -, -, rfl⟩ := h
  exact ((wasIssued_iff hi c').1 h').2.2

theorem Ran.unique {i j : Instr} (h : Ran s i) (h' : Ran s j) : i = j := by
  obtain ⟨c, hc, hd⟩ := h
  obtain ⟨c', hc', hd'⟩ := h'
  obtain rfl := hc.unique hc'
  exact Except.ok.inj (hd.symm.trans hd')

/-- A reset executes no word (R232). -/
theorem WasReset.not_wasIssued (h : WasReset s) (c : Cmd40) : ¬ WasIssued s c := by
  obtain ⟨p, rest, hi, hr⟩ := h
  simp [wasIssued_iff hi, hr]

theorem WasReset.not_ran (h : WasReset s) (i : Instr) : ¬ Ran s i := fun ⟨c, hc, _⟩ => h.not_wasIssued c hc

theorem WasReset.not_ranUndefined (h : WasReset s) : ¬ RanUndefined s := fun ⟨c, _, hc, _⟩ => h.not_wasIssued c hc

/-- The flag that a word can raise, by what it decodes to (R201, R203). -/
def raisableFlag : Except Undefined Instr → Option Flag
  | .error _ => some .illegal
  | .ok (.rxPush _) => some .rxovf
  | .ok .decMeas => some .incomplete
  | .ok _ => none

/-- Each flag raised has its own cause (R203). -/
theorem raised_cause (h : step s = .next t) {f : Flag} (hclear : s.flag f = false) (hset : t.flag f = true) :
    (f = .illegal ∧ RanUndefined s) ∨ (f = .rxovf ∧ ∃ b, Ran s (.rxPush b)) ∨ (f = .incomplete ∧ Ran s .decMeas) := by
  obtain ⟨hinc, hovf, hill⟩ := flagsAreSetOnlyAsRuled s t h
  cases f with
  | incomplete => exact .inr (.inr ⟨rfl, ((hinc hclear).1 hset).1⟩)
  | rxovf => exact .inr (.inl ⟨rfl, ((hovf hclear).1 hset).1⟩)
  | illegal => exact .inl ⟨rfl, (hill hclear).1 hset⟩

/-- A raised flag is the one that the word executed can raise. -/
theorem raised_raisableFlag (h : step s = .next t) {f : Flag} (hclear : s.flag f = false) (hset : t.flag f = true) :
    ∃ c, WasIssued s c ∧ raisableFlag (decode c) = some f := by
  rcases raised_cause h hclear hset with ⟨rfl, c, e, hc, hd⟩ | ⟨rfl, b, c, hc, hd⟩ | ⟨rfl, c, hc, hd⟩
  · exact ⟨c, hc, by rw [hd]; rfl⟩
  · exact ⟨c, hc, by rw [hd]; rfl⟩
  · exact ⟨c, hc, by rw [hd]; rfl⟩

/-- An undefined word raises ILLEGAL and leaves the other flags (R83). -/
theorem step_flag_of_ranUndefined (h : step s = .next t) (hundef : RanUndefined s) (f : Flag) :
    t.flag f = (s.flag f || decide (f = .illegal)) := by
  rcases step_cases_ran h with ⟨-, -, hno, -⟩ | ⟨-, -, hno, -⟩ | ⟨-, hno, -⟩ | ⟨-, -, -, rfl⟩
  · exact absurd hundef hno
  · exact absurd hundef hno
  · exact absurd hundef hno
  · simp

end

/-- Settles O16: a set flag is clear where it is not set again and does not stand; what clears it is no cause to set
it. -/
theorem flagsAreClearedOnlyAsRuled : Obligations.FlagsAreClearedOnlyAsRuled := by
  intro s t h
  refine ⟨fun hset => ?_, fun hset => ?_, fun hset => ?_⟩
  · rw [← Bool.not_eq_true, step_incomplete_iff h]
    have hexcl : WasReset s → ¬ Ran s .decMeas := fun hw => hw.not_ran _
    simp only [hset, ← not_lt]
    tauto
  · rw [← Bool.not_eq_true, step_rxovf_iff h]
    have hreset : WasReset s → ¬ ∃ b, Ran s (.rxPush b) := fun hw ⟨b, hb⟩ => hw.not_ran _ hb
    have hclear : Ran s .rxClear → ¬ ∃ b, Ran s (.rxPush b) := fun hc ⟨b, hb⟩ => nomatch hc.unique hb
    tauto
  · rw [← Bool.not_eq_true, step_illegal_iff h]
    have hexcl : WasReset s → ¬ RanUndefined s := WasReset.not_ranUndefined
    tauto

/-- Settles O18: a step executes at most one word, and a word can raise at most one flag. -/
theorem stepRaisesAtMostOneFlag : Obligations.StepRaisesAtMostOneFlag := by
  refine fun s t h => ⟨fun f => raised_cause h, fun hundef => ⟨?_, fun f hf => ?_⟩, fun f g hf hf' hg hg' => ?_⟩
  · simp [step_flag_of_ranUndefined h hundef]
  · simp [step_flag_of_ranUndefined h hundef, hf]
  · obtain ⟨c, hc, hfc⟩ := raised_raisableFlag h hf hf'
    obtain ⟨c', hc', hgc⟩ := raised_raisableFlag h hg hg'
    obtain rfl := hc.unique hc'
    exact Option.some.inj (hfc.symm.trans hgc)

end Sys2Proof.Machine
end

section
/-! The reset input and the state it leaves: `rst` wins over a command, every register takes its reset value, and the
invariant starts there (R230, R231, R232). -/

namespace Sys2Proof.Machine

/-- The reset state has nothing to reset: the rules about `toReset` speak of it too. -/
theorem State.toReset_reset : State.reset.toReset = State.reset := rfl

/-- A step whose sample has `rst` = 1 only takes the sample and resets, whatever its other ports hold (R232). -/
theorem step_of_rst {s : State} {p : PortSample} {rest : List PortSample} (hi : s.inputs = p :: rest)
    (hr : p.rst = true) : step s = .next (s.setInputs rest).toReset :=
  (step_of_inputs_cons hi).trans (samplePorts_of_rst hr _)

/-- After reset `CRC_RESULT` shows the two seed bytes (R231). -/
theorem State.crcResult_toReset (s : State) : s.toReset.crcResult = 0xFFFF#16 := by
  rw [State.crcResult, State.toReset_crcH, State.toReset_crcL]
  decide

/-- Settles O10: the step resets the state with the sample taken, and `toReset` keeps `RX_CAP` and the samples left. -/
theorem resetInputWinsOverCommand : Obligations.ResetInputWinsOverCommand :=
  fun _ _ _ hi hr => step_of_rst hi hr

/-- Settles O11: each register reads off the definition, and CRC_RESULT and the flags, which are functions of the
registers, by what every reset leaves of them. -/
theorem resetStateHoldsGivenValues : Obligations.ResetStateHoldsGivenValues := by
  have hcrc : State.reset.crcResult = 0xFFFF#16 := State.toReset_reset ▸ State.reset.crcResult_toReset
  have hflags : ∀ f : Flag, State.reset.flag f = false := State.toReset_reset ▸ State.reset.flag_toReset
  exact ⟨rfl, rfl, hcrc, rfl, rfl, rfl, rfl, rfl, rfl, rfl, rfl, hflags⟩

/-- Settles O15: the default `RX_CAP` is one the spec allows, no byte is held, and STATUS is zero. -/
theorem resetStateIsWellFormed : Obligations.ResetStateIsWellFormed := by
  have hcap : Config.rxCapMin ≤ State.reset.rxCap := by decide
  have hlen : State.reset.rxLen ≤ State.reset.rxCap := Nat.zero_le _
  have hreserved : State.reset.status.extractLsb' 3 5 = 0#5 := by decide
  exact ⟨hcap, hlen, hreserved⟩

end Sys2Proof.Machine
end
